-- ==== Sys2Proof/Word.lean ====
section
/-!
DEFINITION. The two word types of the core (spec 00_scope.md R8, R10): `u8` and `u16`.
-/

namespace Sys2Proof

/-- `u8` (R8, R10): the accumulator, the index registers, the stack pointer, one memory byte. -/
abbrev Byte := BitVec 8

/-- `u16` (R8, R10): the program counter and every memory address. -/
abbrev Word := BitVec 16

end Sys2Proof
end

