-- ==== Sys2Proof/Config.lean ====
section
/-!
DEFINITION. The implementation parameters of 00_scope.md R9 that a step consults, the two constants the model
picks for `State.reset`, and the free values of the `Draw` policy (41_arithmetic.md R157).

R9: "Each one is set at construction and is constant during a run." The parameters a step reads are therefore a
plain record that `State` carries and no step writes (notes/assumptions/1.md). `INIT_STATE`, `IMAGE`, `INIT_FILL`
and `RESET_PC` act only at construction and are arguments of `Machine/Construct.lean`'s `construct`.
-/

namespace Sys2Proof

/-- `NONBCD_POLICY` (R9, R157): what a decimal ADC or SBC does on operands that are not packed BCD. -/
inductive NonBcdPolicy where
  /-- The default: the digit algorithms of R153 and R154, applied as written. -/
  | algorithm
  /-- The result byte and the carry are free. -/
  | draw
  deriving DecidableEq, Repr

/-- The parameters of R9 that a step reads. -/
structure Config where
  /-- `BRK_RTI_MODELLED` (R9, R266). When false, 0x00 and 0x40 have no descriptor. -/
  brkRtiModelled : Bool
  /-- `PLP_LOADS_B` (R9, R284, R265). When true, PLP and RTI load B from the pulled bit 4. -/
  plpLoadsB : Bool
  /-- `NONBCD_POLICY` (R9, R157). -/
  nonBcdPolicy : NonBcdPolicy
  /-- `BRK_VECTOR` (R9, R264): where BRK reads its handler's address. -/
  brkVector : Word
  deriving DecidableEq, Repr

/-- The default of every parameter (R9). -/
def Config.standard : Config where
  brkRtiModelled := true
  plpLoadsB := false
  nonBcdPolicy := .algorithm
  brkVector := 0xFFFE

/-- The default of `INIT_FILL` (R9, R63). It is also what an address that memory does not list reads as. -/
def Config.initFill : Byte := 0x00

/-- `RESET_PC` of `State.reset`. R9 gives the parameter no default; the model takes the start address of the
spec's own vectors (95_test_vectors.md E11). DESIGN CHOICE, unsafe: notes/assumptions/2.md. -/
def Config.resetPc : Word := 0x0200

/-- The byte drawn by the `k`-th draw (R157: "r is a free u8"). A free value: nothing constrains it. -/
opaque Config.freeByte : Nat → Byte

/-- The carry drawn by the `k`-th draw (R157: "Cout a free bit"). A free value: nothing constrains it. -/
opaque Config.freeBit : Nat → Bool

end Sys2Proof
end

