-- ==== Sys2Proof/Syntax.lean ====
section
/-!
DEFINITION. The instruction set as syntax: one constructor of `Instr` per row of spec/opcode_table.json
(30_encoding.md R105), its 56 mnemonics, the 13 addressing modes (R87), and the descriptor's view of an
instruction (R83): its mnemonic, its addressing-mode tag and its length.
-/

namespace Sys2Proof

/-- The addressing modes: "a closed set of 13" (R87). -/
inductive Mode where
  | implicit
  | accumulator
  | immediate
  | zeroPage
  | zeroPageX
  | zeroPageY
  | relative
  | absolute
  | absoluteX
  | absoluteY
  | indirect
  | indirectX
  | indirectY
  deriving DecidableEq, Repr

/-- "operand byte-length (0, 1, or 2)", fixed by the mode (R80, R87). -/
def Mode.operandLength : Mode → Nat
  | .implicit => 0
  | .accumulator => 0
  | .immediate => 1
  | .zeroPage => 1
  | .zeroPageX => 1
  | .zeroPageY => 1
  | .relative => 1
  | .absolute => 2
  | .absoluteX => 2
  | .absoluteY => 2
  | .indirect => 2
  | .indirectX => 1
  | .indirectY => 1

/-- The 56 mnemonics (R2, R105). -/
inductive Mnemonic where
  | LDA | LDX | LDY | STA | STX | STY
  | ADC | SBC
  | INC | DEC | INX | INY | DEX | DEY
  | ASL | LSR | ROL | ROR
  | AND | ORA | EOR | BIT
  | CMP | CPX | CPY
  | BCC | BCS | BEQ | BNE | BMI | BPL | BVC | BVS
  | JMP | JSR | RTS | BRK | RTI
  | PHA | PLA | PHP | PLP
  | CLC | SEC | CLI | SEI | CLD | SED | CLV | TAX | TXA | TAY | TYA | TSX | TXS | NOP
  deriving DecidableEq, Repr

/-- The 151 documented instructions (R105), one constructor per row of the opcode table, in the order of the
family files. An operand is the field the format carries, unresolved (R81, R82): `imm8`, `zp8`, `disp8` the byte
after the opcode, `addr16` the two bytes after it, low byte first. -/
inductive Instr where
  -- Load and store (40_load_store.md)
  | ldaImmediate (imm8 : Byte)
  | ldaZeroPage (zp8 : Byte)
  | ldaZeroPageX (zp8 : Byte)
  | ldaAbsolute (addr16 : Word)
  | ldaAbsoluteX (addr16 : Word)
  | ldaAbsoluteY (addr16 : Word)
  | ldaIndirectX (zp8 : Byte)
  | ldaIndirectY (zp8 : Byte)
  | ldxImmediate (imm8 : Byte)
  | ldxZeroPage (zp8 : Byte)
  | ldxZeroPageY (zp8 : Byte)
  | ldxAbsolute (addr16 : Word)
  | ldxAbsoluteY (addr16 : Word)
  | ldyImmediate (imm8 : Byte)
  | ldyZeroPage (zp8 : Byte)
  | ldyZeroPageX (zp8 : Byte)
  | ldyAbsolute (addr16 : Word)
  | ldyAbsoluteX (addr16 : Word)
  | staZeroPage (zp8 : Byte)
  | staZeroPageX (zp8 : Byte)
  | staAbsolute (addr16 : Word)
  | staAbsoluteX (addr16 : Word)
  | staAbsoluteY (addr16 : Word)
  | staIndirectX (zp8 : Byte)
  | staIndirectY (zp8 : Byte)
  | stxZeroPage (zp8 : Byte)
  | stxZeroPageY (zp8 : Byte)
  | stxAbsolute (addr16 : Word)
  | styZeroPage (zp8 : Byte)
  | styZeroPageX (zp8 : Byte)
  | styAbsolute (addr16 : Word)
  -- Arithmetic (41_arithmetic.md)
  | adcImmediate (imm8 : Byte)
  | adcZeroPage (zp8 : Byte)
  | adcZeroPageX (zp8 : Byte)
  | adcAbsolute (addr16 : Word)
  | adcAbsoluteX (addr16 : Word)
  | adcAbsoluteY (addr16 : Word)
  | adcIndirectX (zp8 : Byte)
  | adcIndirectY (zp8 : Byte)
  | sbcImmediate (imm8 : Byte)
  | sbcZeroPage (zp8 : Byte)
  | sbcZeroPageX (zp8 : Byte)
  | sbcAbsolute (addr16 : Word)
  | sbcAbsoluteX (addr16 : Word)
  | sbcAbsoluteY (addr16 : Word)
  | sbcIndirectX (zp8 : Byte)
  | sbcIndirectY (zp8 : Byte)
  -- Increment and decrement (42_inc_dec.md)
  | incZeroPage (zp8 : Byte)
  | incZeroPageX (zp8 : Byte)
  | incAbsolute (addr16 : Word)
  | incAbsoluteX (addr16 : Word)
  | decZeroPage (zp8 : Byte)
  | decZeroPageX (zp8 : Byte)
  | decAbsolute (addr16 : Word)
  | decAbsoluteX (addr16 : Word)
  | inx
  | iny
  | dex
  | dey
  -- Shifts and rotates (43_shift_rotate.md)
  | aslAccumulator
  | aslZeroPage (zp8 : Byte)
  | aslZeroPageX (zp8 : Byte)
  | aslAbsolute (addr16 : Word)
  | aslAbsoluteX (addr16 : Word)
  | lsrAccumulator
  | lsrZeroPage (zp8 : Byte)
  | lsrZeroPageX (zp8 : Byte)
  | lsrAbsolute (addr16 : Word)
  | lsrAbsoluteX (addr16 : Word)
  | rolAccumulator
  | rolZeroPage (zp8 : Byte)
  | rolZeroPageX (zp8 : Byte)
  | rolAbsolute (addr16 : Word)
  | rolAbsoluteX (addr16 : Word)
  | rorAccumulator
  | rorZeroPage (zp8 : Byte)
  | rorZeroPageX (zp8 : Byte)
  | rorAbsolute (addr16 : Word)
  | rorAbsoluteX (addr16 : Word)
  -- Logic and bit test (44_logic_bit.md)
  | andImmediate (imm8 : Byte)
  | andZeroPage (zp8 : Byte)
  | andZeroPageX (zp8 : Byte)
  | andAbsolute (addr16 : Word)
  | andAbsoluteX (addr16 : Word)
  | andAbsoluteY (addr16 : Word)
  | andIndirectX (zp8 : Byte)
  | andIndirectY (zp8 : Byte)
  | oraImmediate (imm8 : Byte)
  | oraZeroPage (zp8 : Byte)
  | oraZeroPageX (zp8 : Byte)
  | oraAbsolute (addr16 : Word)
  | oraAbsoluteX (addr16 : Word)
  | oraAbsoluteY (addr16 : Word)
  | oraIndirectX (zp8 : Byte)
  | oraIndirectY (zp8 : Byte)
  | eorImmediate (imm8 : Byte)
  | eorZeroPage (zp8 : Byte)
  | eorZeroPageX (zp8 : Byte)
  | eorAbsolute (addr16 : Word)
  | eorAbsoluteX (addr16 : Word)
  | eorAbsoluteY (addr16 : Word)
  | eorIndirectX (zp8 : Byte)
  | eorIndirectY (zp8 : Byte)
  | bitZeroPage (zp8 : Byte)
  | bitAbsolute (addr16 : Word)
  -- Compare (45_compare.md)
  | cmpImmediate (imm8 : Byte)
  | cmpZeroPage (zp8 : Byte)
  | cmpZeroPageX (zp8 : Byte)
  | cmpAbsolute (addr16 : Word)
  | cmpAbsoluteX (addr16 : Word)
  | cmpAbsoluteY (addr16 : Word)
  | cmpIndirectX (zp8 : Byte)
  | cmpIndirectY (zp8 : Byte)
  | cpxImmediate (imm8 : Byte)
  | cpxZeroPage (zp8 : Byte)
  | cpxAbsolute (addr16 : Word)
  | cpyImmediate (imm8 : Byte)
  | cpyZeroPage (zp8 : Byte)
  | cpyAbsolute (addr16 : Word)
  -- Conditional branches (46_branch.md)
  | bcc (disp8 : Byte)
  | bcs (disp8 : Byte)
  | beq (disp8 : Byte)
  | bne (disp8 : Byte)
  | bmi (disp8 : Byte)
  | bpl (disp8 : Byte)
  | bvc (disp8 : Byte)
  | bvs (disp8 : Byte)
  -- Jump, call and return (47_jump_call.md)
  | jmpAbsolute (addr16 : Word)
  | jmpIndirect (addr16 : Word)
  | jsr (addr16 : Word)
  | rts
  | brk
  | rti
  -- Stack (48_stack.md)
  | pha
  | pla
  | php
  | plp
  -- Flag operations, transfers, NOP (49_flags_transfer_nop.md)
  | clc
  | sec
  | cli
  | sei
  | cld
  | sed
  | clv
  | tax
  | txa
  | tay
  | tya
  | tsx
  | txs
  | nop
  deriving DecidableEq, Repr

/-- The mnemonic of an instruction's descriptor (R83). -/
def Instr.mnemonic : Instr → Mnemonic
  | .ldaImmediate _ => .LDA
  | .ldaZeroPage _ => .LDA
  | .ldaZeroPageX _ => .LDA
  | .ldaAbsolute _ => .LDA
  | .ldaAbsoluteX _ => .LDA
  | .ldaAbsoluteY _ => .LDA
  | .ldaIndirectX _ => .LDA
  | .ldaIndirectY _ => .LDA
  | .ldxImmediate _ => .LDX
  | .ldxZeroPage _ => .LDX
  | .ldxZeroPageY _ => .LDX
  | .ldxAbsolute _ => .LDX
  | .ldxAbsoluteY _ => .LDX
  | .ldyImmediate _ => .LDY
  | .ldyZeroPage _ => .LDY
  | .ldyZeroPageX _ => .LDY
  | .ldyAbsolute _ => .LDY
  | .ldyAbsoluteX _ => .LDY
  | .staZeroPage _ => .STA
  | .staZeroPageX _ => .STA
  | .staAbsolute _ => .STA
  | .staAbsoluteX _ => .STA
  | .staAbsoluteY _ => .STA
  | .staIndirectX _ => .STA
  | .staIndirectY _ => .STA
  | .stxZeroPage _ => .STX
  | .stxZeroPageY _ => .STX
  | .stxAbsolute _ => .STX
  | .styZeroPage _ => .STY
  | .styZeroPageX _ => .STY
  | .styAbsolute _ => .STY
  | .adcImmediate _ => .ADC
  | .adcZeroPage _ => .ADC
  | .adcZeroPageX _ => .ADC
  | .adcAbsolute _ => .ADC
  | .adcAbsoluteX _ => .ADC
  | .adcAbsoluteY _ => .ADC
  | .adcIndirectX _ => .ADC
  | .adcIndirectY _ => .ADC
  | .sbcImmediate _ => .SBC
  | .sbcZeroPage _ => .SBC
  | .sbcZeroPageX _ => .SBC
  | .sbcAbsolute _ => .SBC
  | .sbcAbsoluteX _ => .SBC
  | .sbcAbsoluteY _ => .SBC
  | .sbcIndirectX _ => .SBC
  | .sbcIndirectY _ => .SBC
  | .incZeroPage _ => .INC
  | .incZeroPageX _ => .INC
  | .incAbsolute _ => .INC
  | .incAbsoluteX _ => .INC
  | .decZeroPage _ => .DEC
  | .decZeroPageX _ => .DEC
  | .decAbsolute _ => .DEC
  | .decAbsoluteX _ => .DEC
  | .inx => .INX
  | .iny => .INY
  | .dex => .DEX
  | .dey => .DEY
  | .aslAccumulator => .ASL
  | .aslZeroPage _ => .ASL
  | .aslZeroPageX _ => .ASL
  | .aslAbsolute _ => .ASL
  | .aslAbsoluteX _ => .ASL
  | .lsrAccumulator => .LSR
  | .lsrZeroPage _ => .LSR
  | .lsrZeroPageX _ => .LSR
  | .lsrAbsolute _ => .LSR
  | .lsrAbsoluteX _ => .LSR
  | .rolAccumulator => .ROL
  | .rolZeroPage _ => .ROL
  | .rolZeroPageX _ => .ROL
  | .rolAbsolute _ => .ROL
  | .rolAbsoluteX _ => .ROL
  | .rorAccumulator => .ROR
  | .rorZeroPage _ => .ROR
  | .rorZeroPageX _ => .ROR
  | .rorAbsolute _ => .ROR
  | .rorAbsoluteX _ => .ROR
  | .andImmediate _ => .AND
  | .andZeroPage _ => .AND
  | .andZeroPageX _ => .AND
  | .andAbsolute _ => .AND
  | .andAbsoluteX _ => .AND
  | .andAbsoluteY _ => .AND
  | .andIndirectX _ => .AND
  | .andIndirectY _ => .AND
  | .oraImmediate _ => .ORA
  | .oraZeroPage _ => .ORA
  | .oraZeroPageX _ => .ORA
  | .oraAbsolute _ => .ORA
  | .oraAbsoluteX _ => .ORA
  | .oraAbsoluteY _ => .ORA
  | .oraIndirectX _ => .ORA
  | .oraIndirectY _ => .ORA
  | .eorImmediate _ => .EOR
  | .eorZeroPage _ => .EOR
  | .eorZeroPageX _ => .EOR
  | .eorAbsolute _ => .EOR
  | .eorAbsoluteX _ => .EOR
  | .eorAbsoluteY _ => .EOR
  | .eorIndirectX _ => .EOR
  | .eorIndirectY _ => .EOR
  | .bitZeroPage _ => .BIT
  | .bitAbsolute _ => .BIT
  | .cmpImmediate _ => .CMP
  | .cmpZeroPage _ => .CMP
  | .cmpZeroPageX _ => .CMP
  | .cmpAbsolute _ => .CMP
  | .cmpAbsoluteX _ => .CMP
  | .cmpAbsoluteY _ => .CMP
  | .cmpIndirectX _ => .CMP
  | .cmpIndirectY _ => .CMP
  | .cpxImmediate _ => .CPX
  | .cpxZeroPage _ => .CPX
  | .cpxAbsolute _ => .CPX
  | .cpyImmediate _ => .CPY
  | .cpyZeroPage _ => .CPY
  | .cpyAbsolute _ => .CPY
  | .bcc _ => .BCC
  | .bcs _ => .BCS
  | .beq _ => .BEQ
  | .bne _ => .BNE
  | .bmi _ => .BMI
  | .bpl _ => .BPL
  | .bvc _ => .BVC
  | .bvs _ => .BVS
  | .jmpAbsolute _ => .JMP
  | .jmpIndirect _ => .JMP
  | .jsr _ => .JSR
  | .rts => .RTS
  | .brk => .BRK
  | .rti => .RTI
  | .pha => .PHA
  | .pla => .PLA
  | .php => .PHP
  | .plp => .PLP
  | .clc => .CLC
  | .sec => .SEC
  | .cli => .CLI
  | .sei => .SEI
  | .cld => .CLD
  | .sed => .SED
  | .clv => .CLV
  | .tax => .TAX
  | .txa => .TXA
  | .tay => .TAY
  | .tya => .TYA
  | .tsx => .TSX
  | .txs => .TXS
  | .nop => .NOP

/-- The addressing-mode tag of an instruction's descriptor (R83, R105). -/
def Instr.mode : Instr → Mode
  | .ldaImmediate _ => .immediate
  | .ldaZeroPage _ => .zeroPage
  | .ldaZeroPageX _ => .zeroPageX
  | .ldaAbsolute _ => .absolute
  | .ldaAbsoluteX _ => .absoluteX
  | .ldaAbsoluteY _ => .absoluteY
  | .ldaIndirectX _ => .indirectX
  | .ldaIndirectY _ => .indirectY
  | .ldxImmediate _ => .immediate
  | .ldxZeroPage _ => .zeroPage
  | .ldxZeroPageY _ => .zeroPageY
  | .ldxAbsolute _ => .absolute
  | .ldxAbsoluteY _ => .absoluteY
  | .ldyImmediate _ => .immediate
  | .ldyZeroPage _ => .zeroPage
  | .ldyZeroPageX _ => .zeroPageX
  | .ldyAbsolute _ => .absolute
  | .ldyAbsoluteX _ => .absoluteX
  | .staZeroPage _ => .zeroPage
  | .staZeroPageX _ => .zeroPageX
  | .staAbsolute _ => .absolute
  | .staAbsoluteX _ => .absoluteX
  | .staAbsoluteY _ => .absoluteY
  | .staIndirectX _ => .indirectX
  | .staIndirectY _ => .indirectY
  | .stxZeroPage _ => .zeroPage
  | .stxZeroPageY _ => .zeroPageY
  | .stxAbsolute _ => .absolute
  | .styZeroPage _ => .zeroPage
  | .styZeroPageX _ => .zeroPageX
  | .styAbsolute _ => .absolute
  | .adcImmediate _ => .immediate
  | .adcZeroPage _ => .zeroPage
  | .adcZeroPageX _ => .zeroPageX
  | .adcAbsolute _ => .absolute
  | .adcAbsoluteX _ => .absoluteX
  | .adcAbsoluteY _ => .absoluteY
  | .adcIndirectX _ => .indirectX
  | .adcIndirectY _ => .indirectY
  | .sbcImmediate _ => .immediate
  | .sbcZeroPage _ => .zeroPage
  | .sbcZeroPageX _ => .zeroPageX
  | .sbcAbsolute _ => .absolute
  | .sbcAbsoluteX _ => .absoluteX
  | .sbcAbsoluteY _ => .absoluteY
  | .sbcIndirectX _ => .indirectX
  | .sbcIndirectY _ => .indirectY
  | .incZeroPage _ => .zeroPage
  | .incZeroPageX _ => .zeroPageX
  | .incAbsolute _ => .absolute
  | .incAbsoluteX _ => .absoluteX
  | .decZeroPage _ => .zeroPage
  | .decZeroPageX _ => .zeroPageX
  | .decAbsolute _ => .absolute
  | .decAbsoluteX _ => .absoluteX
  | .inx => .implicit
  | .iny => .implicit
  | .dex => .implicit
  | .dey => .implicit
  | .aslAccumulator => .accumulator
  | .aslZeroPage _ => .zeroPage
  | .aslZeroPageX _ => .zeroPageX
  | .aslAbsolute _ => .absolute
  | .aslAbsoluteX _ => .absoluteX
  | .lsrAccumulator => .accumulator
  | .lsrZeroPage _ => .zeroPage
  | .lsrZeroPageX _ => .zeroPageX
  | .lsrAbsolute _ => .absolute
  | .lsrAbsoluteX _ => .absoluteX
  | .rolAccumulator => .accumulator
  | .rolZeroPage _ => .zeroPage
  | .rolZeroPageX _ => .zeroPageX
  | .rolAbsolute _ => .absolute
  | .rolAbsoluteX _ => .absoluteX
  | .rorAccumulator => .accumulator
  | .rorZeroPage _ => .zeroPage
  | .rorZeroPageX _ => .zeroPageX
  | .rorAbsolute _ => .absolute
  | .rorAbsoluteX _ => .absoluteX
  | .andImmediate _ => .immediate
  | .andZeroPage _ => .zeroPage
  | .andZeroPageX _ => .zeroPageX
  | .andAbsolute _ => .absolute
  | .andAbsoluteX _ => .absoluteX
  | .andAbsoluteY _ => .absoluteY
  | .andIndirectX _ => .indirectX
  | .andIndirectY _ => .indirectY
  | .oraImmediate _ => .immediate
  | .oraZeroPage _ => .zeroPage
  | .oraZeroPageX _ => .zeroPageX
  | .oraAbsolute _ => .absolute
  | .oraAbsoluteX _ => .absoluteX
  | .oraAbsoluteY _ => .absoluteY
  | .oraIndirectX _ => .indirectX
  | .oraIndirectY _ => .indirectY
  | .eorImmediate _ => .immediate
  | .eorZeroPage _ => .zeroPage
  | .eorZeroPageX _ => .zeroPageX
  | .eorAbsolute _ => .absolute
  | .eorAbsoluteX _ => .absoluteX
  | .eorAbsoluteY _ => .absoluteY
  | .eorIndirectX _ => .indirectX
  | .eorIndirectY _ => .indirectY
  | .bitZeroPage _ => .zeroPage
  | .bitAbsolute _ => .absolute
  | .cmpImmediate _ => .immediate
  | .cmpZeroPage _ => .zeroPage
  | .cmpZeroPageX _ => .zeroPageX
  | .cmpAbsolute _ => .absolute
  | .cmpAbsoluteX _ => .absoluteX
  | .cmpAbsoluteY _ => .absoluteY
  | .cmpIndirectX _ => .indirectX
  | .cmpIndirectY _ => .indirectY
  | .cpxImmediate _ => .immediate
  | .cpxZeroPage _ => .zeroPage
  | .cpxAbsolute _ => .absolute
  | .cpyImmediate _ => .immediate
  | .cpyZeroPage _ => .zeroPage
  | .cpyAbsolute _ => .absolute
  | .bcc _ => .relative
  | .bcs _ => .relative
  | .beq _ => .relative
  | .bne _ => .relative
  | .bmi _ => .relative
  | .bpl _ => .relative
  | .bvc _ => .relative
  | .bvs _ => .relative
  | .jmpAbsolute _ => .absolute
  | .jmpIndirect _ => .indirect
  | .jsr _ => .absolute
  | .rts => .implicit
  | .brk => .implicit
  | .rti => .implicit
  | .pha => .implicit
  | .pla => .implicit
  | .php => .implicit
  | .plp => .implicit
  | .clc => .implicit
  | .sec => .implicit
  | .cli => .implicit
  | .sei => .implicit
  | .cld => .implicit
  | .sed => .implicit
  | .clv => .implicit
  | .tax => .implicit
  | .txa => .implicit
  | .tay => .implicit
  | .tya => .implicit
  | .tsx => .implicit
  | .txs => .implicit
  | .nop => .implicit

/-- "Instruction length = 1 + operand length" (R80). -/
def Instr.length (i : Instr) : Nat := 1 + i.mode.operandLength

end Sys2Proof
end

