-- ==== Sys2Proof/WellFormed.lean ====
section
/-!
DEFINITION. Which instructions a machine with given parameters has. Every operand of `Instr` is a field of exactly the
width its format carries (30_encoding.md R81), and a (mnemonic, mode) pair without an opcode has no constructor (R105),
so the one check left is R266: without `BRK_RTI_MODELLED`, BRK and RTI are not instructions of the machine.
-/

namespace Sys2Proof

/-- The instruction has a descriptor on a machine with these parameters (R85, R266). -/
def Instr.wellFormed (cfg : Config) (i : Instr) : Bool :=
  cfg.brkRtiModelled || (i.mnemonic != .BRK && i.mnemonic != .RTI)

end Sys2Proof
end

