-- ==== Sys2Proof/Decode.lean ====
section
/-!
DEFINITION. The decoder (30_encoding.md R80 to R86, R105, R106), total on any bytes, and after it the encoder, both
written from the opcode map of R105. `decodeTableWord` reads an instruction numbered as spec/opcode_table.json
numbers its bits.
-/

namespace Sys2Proof

/-- `w[7:0]`. -/
def loByte (w : Word) : Byte := w.setWidth 8

/-- `w[15:8]`. -/
def hiByte (w : Word) : Byte := w.extractLsb' 8 8

/-- `{hi, lo}` (R10): `hi * 256 + lo`. -/
def wordOf (hi lo : Byte) : Word := hi ++ lo

/-- An entry of the Opcode Dispatch Table by its format (R81): F1 has no operand byte, F2 one (`b1`), F3 two, which
make `addr16 = {b2, b1}` (R82). -/
inductive Row where
  | f1 (i : Instr)
  | f2 (i : Byte → Instr)
  | f3 (i : Word → Instr)

/-- How many bytes an instruction of this format has (R80, R81). -/
def Row.length : Row → Nat
  | .f1 _ => 1
  | .f2 _ => 2
  | .f3 _ => 3

/-- The documented opcode map (R105, R106): 151 of the 256 byte values have an entry, the 105 others of R85 have
none. The byte values are the spec's own decision D22. -/
def opcodeMap (op : Byte) : Option Row :=
  match op.toNat with
  | 0x00 => some (.f1 .brk)
  | 0x01 => some (.f2 .oraIndirectX)
  | 0x05 => some (.f2 .oraZeroPage)
  | 0x06 => some (.f2 .aslZeroPage)
  | 0x08 => some (.f1 .php)
  | 0x09 => some (.f2 .oraImmediate)
  | 0x0A => some (.f1 .aslAccumulator)
  | 0x0D => some (.f3 .oraAbsolute)
  | 0x0E => some (.f3 .aslAbsolute)
  | 0x10 => some (.f2 .bpl)
  | 0x11 => some (.f2 .oraIndirectY)
  | 0x15 => some (.f2 .oraZeroPageX)
  | 0x16 => some (.f2 .aslZeroPageX)
  | 0x18 => some (.f1 .clc)
  | 0x19 => some (.f3 .oraAbsoluteY)
  | 0x1D => some (.f3 .oraAbsoluteX)
  | 0x1E => some (.f3 .aslAbsoluteX)
  | 0x20 => some (.f3 .jsr)
  | 0x21 => some (.f2 .andIndirectX)
  | 0x24 => some (.f2 .bitZeroPage)
  | 0x25 => some (.f2 .andZeroPage)
  | 0x26 => some (.f2 .rolZeroPage)
  | 0x28 => some (.f1 .plp)
  | 0x29 => some (.f2 .andImmediate)
  | 0x2A => some (.f1 .rolAccumulator)
  | 0x2C => some (.f3 .bitAbsolute)
  | 0x2D => some (.f3 .andAbsolute)
  | 0x2E => some (.f3 .rolAbsolute)
  | 0x30 => some (.f2 .bmi)
  | 0x31 => some (.f2 .andIndirectY)
  | 0x35 => some (.f2 .andZeroPageX)
  | 0x36 => some (.f2 .rolZeroPageX)
  | 0x38 => some (.f1 .sec)
  | 0x39 => some (.f3 .andAbsoluteY)
  | 0x3D => some (.f3 .andAbsoluteX)
  | 0x3E => some (.f3 .rolAbsoluteX)
  | 0x40 => some (.f1 .rti)
  | 0x41 => some (.f2 .eorIndirectX)
  | 0x45 => some (.f2 .eorZeroPage)
  | 0x46 => some (.f2 .lsrZeroPage)
  | 0x48 => some (.f1 .pha)
  | 0x49 => some (.f2 .eorImmediate)
  | 0x4A => some (.f1 .lsrAccumulator)
  | 0x4C => some (.f3 .jmpAbsolute)
  | 0x4D => some (.f3 .eorAbsolute)
  | 0x4E => some (.f3 .lsrAbsolute)
  | 0x50 => some (.f2 .bvc)
  | 0x51 => some (.f2 .eorIndirectY)
  | 0x55 => some (.f2 .eorZeroPageX)
  | 0x56 => some (.f2 .lsrZeroPageX)
  | 0x58 => some (.f1 .cli)
  | 0x59 => some (.f3 .eorAbsoluteY)
  | 0x5D => some (.f3 .eorAbsoluteX)
  | 0x5E => some (.f3 .lsrAbsoluteX)
  | 0x60 => some (.f1 .rts)
  | 0x61 => some (.f2 .adcIndirectX)
  | 0x65 => some (.f2 .adcZeroPage)
  | 0x66 => some (.f2 .rorZeroPage)
  | 0x68 => some (.f1 .pla)
  | 0x69 => some (.f2 .adcImmediate)
  | 0x6A => some (.f1 .rorAccumulator)
  | 0x6C => some (.f3 .jmpIndirect)
  | 0x6D => some (.f3 .adcAbsolute)
  | 0x6E => some (.f3 .rorAbsolute)
  | 0x70 => some (.f2 .bvs)
  | 0x71 => some (.f2 .adcIndirectY)
  | 0x75 => some (.f2 .adcZeroPageX)
  | 0x76 => some (.f2 .rorZeroPageX)
  | 0x78 => some (.f1 .sei)
  | 0x79 => some (.f3 .adcAbsoluteY)
  | 0x7D => some (.f3 .adcAbsoluteX)
  | 0x7E => some (.f3 .rorAbsoluteX)
  | 0x81 => some (.f2 .staIndirectX)
  | 0x84 => some (.f2 .styZeroPage)
  | 0x85 => some (.f2 .staZeroPage)
  | 0x86 => some (.f2 .stxZeroPage)
  | 0x88 => some (.f1 .dey)
  | 0x8A => some (.f1 .txa)
  | 0x8C => some (.f3 .styAbsolute)
  | 0x8D => some (.f3 .staAbsolute)
  | 0x8E => some (.f3 .stxAbsolute)
  | 0x90 => some (.f2 .bcc)
  | 0x91 => some (.f2 .staIndirectY)
  | 0x94 => some (.f2 .styZeroPageX)
  | 0x95 => some (.f2 .staZeroPageX)
  | 0x96 => some (.f2 .stxZeroPageY)
  | 0x98 => some (.f1 .tya)
  | 0x99 => some (.f3 .staAbsoluteY)
  | 0x9A => some (.f1 .txs)
  | 0x9D => some (.f3 .staAbsoluteX)
  | 0xA0 => some (.f2 .ldyImmediate)
  | 0xA1 => some (.f2 .ldaIndirectX)
  | 0xA2 => some (.f2 .ldxImmediate)
  | 0xA4 => some (.f2 .ldyZeroPage)
  | 0xA5 => some (.f2 .ldaZeroPage)
  | 0xA6 => some (.f2 .ldxZeroPage)
  | 0xA8 => some (.f1 .tay)
  | 0xA9 => some (.f2 .ldaImmediate)
  | 0xAA => some (.f1 .tax)
  | 0xAC => some (.f3 .ldyAbsolute)
  | 0xAD => some (.f3 .ldaAbsolute)
  | 0xAE => some (.f3 .ldxAbsolute)
  | 0xB0 => some (.f2 .bcs)
  | 0xB1 => some (.f2 .ldaIndirectY)
  | 0xB4 => some (.f2 .ldyZeroPageX)
  | 0xB5 => some (.f2 .ldaZeroPageX)
  | 0xB6 => some (.f2 .ldxZeroPageY)
  | 0xB8 => some (.f1 .clv)
  | 0xB9 => some (.f3 .ldaAbsoluteY)
  | 0xBA => some (.f1 .tsx)
  | 0xBC => some (.f3 .ldyAbsoluteX)
  | 0xBD => some (.f3 .ldaAbsoluteX)
  | 0xBE => some (.f3 .ldxAbsoluteY)
  | 0xC0 => some (.f2 .cpyImmediate)
  | 0xC1 => some (.f2 .cmpIndirectX)
  | 0xC4 => some (.f2 .cpyZeroPage)
  | 0xC5 => some (.f2 .cmpZeroPage)
  | 0xC6 => some (.f2 .decZeroPage)
  | 0xC8 => some (.f1 .iny)
  | 0xC9 => some (.f2 .cmpImmediate)
  | 0xCA => some (.f1 .dex)
  | 0xCC => some (.f3 .cpyAbsolute)
  | 0xCD => some (.f3 .cmpAbsolute)
  | 0xCE => some (.f3 .decAbsolute)
  | 0xD0 => some (.f2 .bne)
  | 0xD1 => some (.f2 .cmpIndirectY)
  | 0xD5 => some (.f2 .cmpZeroPageX)
  | 0xD6 => some (.f2 .decZeroPageX)
  | 0xD8 => some (.f1 .cld)
  | 0xD9 => some (.f3 .cmpAbsoluteY)
  | 0xDD => some (.f3 .cmpAbsoluteX)
  | 0xDE => some (.f3 .decAbsoluteX)
  | 0xE0 => some (.f2 .cpxImmediate)
  | 0xE1 => some (.f2 .sbcIndirectX)
  | 0xE4 => some (.f2 .cpxZeroPage)
  | 0xE5 => some (.f2 .sbcZeroPage)
  | 0xE6 => some (.f2 .incZeroPage)
  | 0xE8 => some (.f1 .inx)
  | 0xE9 => some (.f2 .sbcImmediate)
  | 0xEA => some (.f1 .nop)
  | 0xEC => some (.f3 .cpxAbsolute)
  | 0xED => some (.f3 .sbcAbsolute)
  | 0xEE => some (.f3 .incAbsolute)
  | 0xF0 => some (.f2 .beq)
  | 0xF1 => some (.f2 .sbcIndirectY)
  | 0xF5 => some (.f2 .sbcZeroPageX)
  | 0xF6 => some (.f2 .incZeroPageX)
  | 0xF8 => some (.f1 .sed)
  | 0xF9 => some (.f3 .sbcAbsoluteY)
  | 0xFD => some (.f3 .sbcAbsoluteX)
  | 0xFE => some (.f3 .incAbsoluteX)
  | _ => none

/-- The Opcode Dispatch Table of a machine with these parameters: the documented map, without 0x00 (BRK) and 0x40
(RTI) when `BRK_RTI_MODELLED` is false (R85, R266). -/
def dispatchTable (cfg : Config) (op : Byte) : Option Row :=
  if !cfg.brkRtiModelled && (op == 0x00 || op == 0x40) then none else opcodeMap op

/-- Why bytes are not an instruction. -/
inductive DecodeReject where
  /-- No byte to decode. -/
  | noBytes
  /-- The opcode byte has no descriptor (R85): fetching it raises DecodeError. -/
  | undefinedOpcode (op : Byte)
  /-- The opcode has a descriptor and fewer bytes follow than its operand length. -/
  | truncated (op : Byte)
  deriving DecidableEq, Repr

/-- What the decoder answers: an instruction with the bytes after it, or a rejection by name. -/
inductive Decoded where
  | instr (i : Instr) (rest : List Byte)
  | rejected (r : DecodeReject)
  deriving DecidableEq, Repr

/-- Reads the operand bytes of a row after its opcode: `b1`, then `b2` (R82). -/
def Row.parse (op : Byte) : Row → List Byte → Decoded
  | .f1 i, rest => .instr i rest
  | .f2 i, b1 :: rest => .instr (i b1) rest
  | .f3 i, b1 :: b2 :: rest => .instr (i (wordOf b2 b1)) rest
  | .f2 _, [] => .rejected (.truncated op)
  | .f3 _, [] => .rejected (.truncated op)
  | .f3 _, [_] => .rejected (.truncated op)

/-- Decode (R84): the first byte is the opcode, and the descriptor it selects says how many operand bytes follow
(R80, R86). -/
def decode (cfg : Config) : List Byte → Decoded
  | [] => .rejected .noBytes
  | op :: rest =>
    match dispatchTable cfg op with
    | none => .rejected (.undefinedOpcode op)
    | some row => row.parse op rest

/-- The length of the instruction whose opcode byte is `op`, found "from its opcode byte alone" (R86). An undefined
byte is one byte long: only the opcode is fetched before DecodeError (R84). -/
def opcodeLength (cfg : Config) (op : Byte) : Nat :=
  match dispatchTable cfg op with
  | none => 1
  | some row => row.length

/-- The bytes of an instruction, in the order they lie in memory (R81, R82, R105). -/
def encode : Instr → List Byte
  | .ldaImmediate imm8 => [0xA9, imm8]
  | .ldaZeroPage zp8 => [0xA5, zp8]
  | .ldaZeroPageX zp8 => [0xB5, zp8]
  | .ldaAbsolute addr16 => [0xAD, loByte addr16, hiByte addr16]
  | .ldaAbsoluteX addr16 => [0xBD, loByte addr16, hiByte addr16]
  | .ldaAbsoluteY addr16 => [0xB9, loByte addr16, hiByte addr16]
  | .ldaIndirectX zp8 => [0xA1, zp8]
  | .ldaIndirectY zp8 => [0xB1, zp8]
  | .ldxImmediate imm8 => [0xA2, imm8]
  | .ldxZeroPage zp8 => [0xA6, zp8]
  | .ldxZeroPageY zp8 => [0xB6, zp8]
  | .ldxAbsolute addr16 => [0xAE, loByte addr16, hiByte addr16]
  | .ldxAbsoluteY addr16 => [0xBE, loByte addr16, hiByte addr16]
  | .ldyImmediate imm8 => [0xA0, imm8]
  | .ldyZeroPage zp8 => [0xA4, zp8]
  | .ldyZeroPageX zp8 => [0xB4, zp8]
  | .ldyAbsolute addr16 => [0xAC, loByte addr16, hiByte addr16]
  | .ldyAbsoluteX addr16 => [0xBC, loByte addr16, hiByte addr16]
  | .staZeroPage zp8 => [0x85, zp8]
  | .staZeroPageX zp8 => [0x95, zp8]
  | .staAbsolute addr16 => [0x8D, loByte addr16, hiByte addr16]
  | .staAbsoluteX addr16 => [0x9D, loByte addr16, hiByte addr16]
  | .staAbsoluteY addr16 => [0x99, loByte addr16, hiByte addr16]
  | .staIndirectX zp8 => [0x81, zp8]
  | .staIndirectY zp8 => [0x91, zp8]
  | .stxZeroPage zp8 => [0x86, zp8]
  | .stxZeroPageY zp8 => [0x96, zp8]
  | .stxAbsolute addr16 => [0x8E, loByte addr16, hiByte addr16]
  | .styZeroPage zp8 => [0x84, zp8]
  | .styZeroPageX zp8 => [0x94, zp8]
  | .styAbsolute addr16 => [0x8C, loByte addr16, hiByte addr16]
  | .adcImmediate imm8 => [0x69, imm8]
  | .adcZeroPage zp8 => [0x65, zp8]
  | .adcZeroPageX zp8 => [0x75, zp8]
  | .adcAbsolute addr16 => [0x6D, loByte addr16, hiByte addr16]
  | .adcAbsoluteX addr16 => [0x7D, loByte addr16, hiByte addr16]
  | .adcAbsoluteY addr16 => [0x79, loByte addr16, hiByte addr16]
  | .adcIndirectX zp8 => [0x61, zp8]
  | .adcIndirectY zp8 => [0x71, zp8]
  | .sbcImmediate imm8 => [0xE9, imm8]
  | .sbcZeroPage zp8 => [0xE5, zp8]
  | .sbcZeroPageX zp8 => [0xF5, zp8]
  | .sbcAbsolute addr16 => [0xED, loByte addr16, hiByte addr16]
  | .sbcAbsoluteX addr16 => [0xFD, loByte addr16, hiByte addr16]
  | .sbcAbsoluteY addr16 => [0xF9, loByte addr16, hiByte addr16]
  | .sbcIndirectX zp8 => [0xE1, zp8]
  | .sbcIndirectY zp8 => [0xF1, zp8]
  | .incZeroPage zp8 => [0xE6, zp8]
  | .incZeroPageX zp8 => [0xF6, zp8]
  | .incAbsolute addr16 => [0xEE, loByte addr16, hiByte addr16]
  | .incAbsoluteX addr16 => [0xFE, loByte addr16, hiByte addr16]
  | .decZeroPage zp8 => [0xC6, zp8]
  | .decZeroPageX zp8 => [0xD6, zp8]
  | .decAbsolute addr16 => [0xCE, loByte addr16, hiByte addr16]
  | .decAbsoluteX addr16 => [0xDE, loByte addr16, hiByte addr16]
  | .inx => [0xE8]
  | .iny => [0xC8]
  | .dex => [0xCA]
  | .dey => [0x88]
  | .aslAccumulator => [0x0A]
  | .aslZeroPage zp8 => [0x06, zp8]
  | .aslZeroPageX zp8 => [0x16, zp8]
  | .aslAbsolute addr16 => [0x0E, loByte addr16, hiByte addr16]
  | .aslAbsoluteX addr16 => [0x1E, loByte addr16, hiByte addr16]
  | .lsrAccumulator => [0x4A]
  | .lsrZeroPage zp8 => [0x46, zp8]
  | .lsrZeroPageX zp8 => [0x56, zp8]
  | .lsrAbsolute addr16 => [0x4E, loByte addr16, hiByte addr16]
  | .lsrAbsoluteX addr16 => [0x5E, loByte addr16, hiByte addr16]
  | .rolAccumulator => [0x2A]
  | .rolZeroPage zp8 => [0x26, zp8]
  | .rolZeroPageX zp8 => [0x36, zp8]
  | .rolAbsolute addr16 => [0x2E, loByte addr16, hiByte addr16]
  | .rolAbsoluteX addr16 => [0x3E, loByte addr16, hiByte addr16]
  | .rorAccumulator => [0x6A]
  | .rorZeroPage zp8 => [0x66, zp8]
  | .rorZeroPageX zp8 => [0x76, zp8]
  | .rorAbsolute addr16 => [0x6E, loByte addr16, hiByte addr16]
  | .rorAbsoluteX addr16 => [0x7E, loByte addr16, hiByte addr16]
  | .andImmediate imm8 => [0x29, imm8]
  | .andZeroPage zp8 => [0x25, zp8]
  | .andZeroPageX zp8 => [0x35, zp8]
  | .andAbsolute addr16 => [0x2D, loByte addr16, hiByte addr16]
  | .andAbsoluteX addr16 => [0x3D, loByte addr16, hiByte addr16]
  | .andAbsoluteY addr16 => [0x39, loByte addr16, hiByte addr16]
  | .andIndirectX zp8 => [0x21, zp8]
  | .andIndirectY zp8 => [0x31, zp8]
  | .oraImmediate imm8 => [0x09, imm8]
  | .oraZeroPage zp8 => [0x05, zp8]
  | .oraZeroPageX zp8 => [0x15, zp8]
  | .oraAbsolute addr16 => [0x0D, loByte addr16, hiByte addr16]
  | .oraAbsoluteX addr16 => [0x1D, loByte addr16, hiByte addr16]
  | .oraAbsoluteY addr16 => [0x19, loByte addr16, hiByte addr16]
  | .oraIndirectX zp8 => [0x01, zp8]
  | .oraIndirectY zp8 => [0x11, zp8]
  | .eorImmediate imm8 => [0x49, imm8]
  | .eorZeroPage zp8 => [0x45, zp8]
  | .eorZeroPageX zp8 => [0x55, zp8]
  | .eorAbsolute addr16 => [0x4D, loByte addr16, hiByte addr16]
  | .eorAbsoluteX addr16 => [0x5D, loByte addr16, hiByte addr16]
  | .eorAbsoluteY addr16 => [0x59, loByte addr16, hiByte addr16]
  | .eorIndirectX zp8 => [0x41, zp8]
  | .eorIndirectY zp8 => [0x51, zp8]
  | .bitZeroPage zp8 => [0x24, zp8]
  | .bitAbsolute addr16 => [0x2C, loByte addr16, hiByte addr16]
  | .cmpImmediate imm8 => [0xC9, imm8]
  | .cmpZeroPage zp8 => [0xC5, zp8]
  | .cmpZeroPageX zp8 => [0xD5, zp8]
  | .cmpAbsolute addr16 => [0xCD, loByte addr16, hiByte addr16]
  | .cmpAbsoluteX addr16 => [0xDD, loByte addr16, hiByte addr16]
  | .cmpAbsoluteY addr16 => [0xD9, loByte addr16, hiByte addr16]
  | .cmpIndirectX zp8 => [0xC1, zp8]
  | .cmpIndirectY zp8 => [0xD1, zp8]
  | .cpxImmediate imm8 => [0xE0, imm8]
  | .cpxZeroPage zp8 => [0xE4, zp8]
  | .cpxAbsolute addr16 => [0xEC, loByte addr16, hiByte addr16]
  | .cpyImmediate imm8 => [0xC0, imm8]
  | .cpyZeroPage zp8 => [0xC4, zp8]
  | .cpyAbsolute addr16 => [0xCC, loByte addr16, hiByte addr16]
  | .bcc disp8 => [0x90, disp8]
  | .bcs disp8 => [0xB0, disp8]
  | .beq disp8 => [0xF0, disp8]
  | .bne disp8 => [0xD0, disp8]
  | .bmi disp8 => [0x30, disp8]
  | .bpl disp8 => [0x10, disp8]
  | .bvc disp8 => [0x50, disp8]
  | .bvs disp8 => [0x70, disp8]
  | .jmpAbsolute addr16 => [0x4C, loByte addr16, hiByte addr16]
  | .jmpIndirect addr16 => [0x6C, loByte addr16, hiByte addr16]
  | .jsr addr16 => [0x20, loByte addr16, hiByte addr16]
  | .rts => [0x60]
  | .brk => [0x00]
  | .rti => [0x40]
  | .pha => [0x48]
  | .pla => [0x68]
  | .php => [0x08]
  | .plp => [0x28]
  | .clc => [0x18]
  | .sec => [0x38]
  | .cli => [0x58]
  | .sei => [0x78]
  | .cld => [0xD8]
  | .sed => [0xF8]
  | .clv => [0xB8]
  | .tax => [0xAA]
  | .txa => [0x8A]
  | .tay => [0xA8]
  | .tya => [0x98]
  | .tsx => [0xBA]
  | .txs => [0x9A]
  | .nop => [0xEA]

/-- The three bytes of an instruction whose bits are `w`, numbered as spec/opcode_table.json numbers them: bit 0 is
the least significant bit of the first byte, the second byte is bits 15 to 8, the third bits 23 to 16. Every bit from
`nbits` up is 0. -/
def tableBytes (nbits w : Nat) : List Byte :=
  let v := w % 2 ^ nbits
  [BitVec.ofNat 8 v, BitVec.ofNat 8 (v / 256), BitVec.ofNat 8 (v / 65536)]

/-- The instruction the decoder, under the default parameters, reads from the bytes of a table word. -/
def decodeTableWord (nbits w : Nat) : Option Instr :=
  match decode Config.standard (tableBytes nbits w) with
  | .instr i _ => some i
  | .rejected _ => none

end Sys2Proof
end

