-- ==== Sys2Proof/Machine/State.lean ====
section
/-!
DEFINITION. The machine's state (10_state.md R20, R26, R36; 20_memory.md R50), the reasons a step can stop, and the
state after reset (R35). Everything here is plain data.
-/

namespace Sys2Proof.Machine

/-- The seven stored flags (R26): carry, zero, interrupt-disable, decimal, break, overflow, negative. Bit 5 of the
byte view is not stored (R28). -/
@[ext]
structure Flags where
  c : Bool
  z : Bool
  i : Bool
  d : Bool
  b : Bool
  v : Bool
  n : Bool
  deriving DecidableEq, Repr

/-- "flags cleared except the always-set bit" (R35). -/
def Flags.cleared : Flags where
  c := false
  z := false
  i := false
  d := false
  b := false
  v := false
  n := false

/-- The 64 KiB store (R50): the bytes that differ from what an unlisted address reads as, by address. -/
abbrev Memory := List Host.Cell

/-- What an address that memory does not list reads as: the default of `INIT_FILL` (R63). -/
def Memory.unlisted : Byte := Config.initFill

/-- Memory's cells from address `lo` up are in canonical form. -/
def Memory.wfFrom : Nat → Memory → Bool
  | _, [] => true
  | lo, (k, v) :: m => decide (lo ≤ k) && decide (k < 65536) && v != Memory.unlisted && Memory.wfFrom (k + 1) m

/-- The canonical form: addresses strictly rising and below 65,536, no cell holding what an unlisted address reads
as. Equal memories are then equal lists. -/
def Memory.wf (m : Memory) : Bool := Memory.wfFrom 0 m

/-- The core between two steps, "ready to fetch next instruction" (R36, R355). -/
@[ext]
structure State where
  /-- Accumulator (R20, R21). -/
  a : Byte
  /-- X index register (R20, R22). -/
  x : Byte
  /-- Y index register (R20, R23). -/
  y : Byte
  /-- Stack pointer: the low byte of the next free stack location (R20, R24). -/
  sp : Byte
  /-- Program counter: between steps, the address of the next opcode (R20, R25). -/
  pc : Word
  /-- The stored flags (R20, R26). -/
  flags : Flags
  /-- The byte-addressable memory (R50). -/
  mem : Memory
  /-- The parameters of R9, "constant during a run": no step writes them. -/
  cfg : Config
  /-- The model's own, not the spec's: how many draws of the `Draw` policy have been made (R157). -/
  draws : Nat
  deriving DecidableEq, Repr

/-- Why a step stops. -/
inductive Fault where
  /-- DecodeError (R320): raised by `step` alone, when the byte at `pc0` has no descriptor (R85). The state is left as
  it was, so the fault repeats if the step is tried again (R321). Safe: it is the spec's own outcome. -/
  | decodeError (pc0 : Word) (opcode : Byte)
  deriving DecidableEq, Repr

/-- Why the model gives an instruction no meaning. -/
inductive Refusal where
  /-- Raised by an arm of `exec` whose instruction has no meaning yet; no arm does. Safe. -/
  | notModelled (mnemonic : String)
  deriving DecidableEq, Repr

/-- The state after reset (R35) under the default parameters (R9), with no image: A = X = Y = 0, SP = 0xFF, the flags
cleared, every byte of memory `INIT_FILL`. PC is the caller's `RESET_PC`, which the spec leaves open
(notes/assumptions/2.md); the draw counter starts at 0 (notes/assumptions/3.md). -/
def State.reset : State where
  a := 0x00
  x := 0x00
  y := 0x00
  sp := 0xFF
  pc := Config.resetPc
  flags := Flags.cleared
  mem := []
  cfg := Config.standard
  draws := 0

end Sys2Proof.Machine
end

