-- ==== Sys2Proof/Machine/Flags.lean ====
section
/-!
DEFINITION. The flag-update unit and the ALU as pure functions "taking raw byte/carry inputs and returning (result,
flags)" (41_arithmetic.md): `SetZN` (10_state.md R32), the byte view of the status register (R27, R28), binary and
decimal add and subtract (R151 to R157), the shifts (43_shift_rotate.md R196 to R199) and the compare (45_compare.md
R225).
-/

namespace Sys2Proof.Machine

/-- `SetZN(v)` (R32): Z from `v == 0`, N from `v[7]`, nothing else. -/
def Flags.setZN (f : Flags) (v : Byte) : Flags :=
  { f with z := v == 0, n := v.getLsbD 7 }

/-- A flag placed at bit `k` of a byte. -/
def bitAt (b : Bool) (k : Nat) : Byte := (BitVec.ofBool b).setWidth 8 <<< k

/-- The byte view `P` (R27): `N<<7 | V<<6 | 1<<5 | B<<4 | D<<3 | I<<2 | Z<<1 | C`. -/
def Flags.byteView (f : Flags) : Byte :=
  bitAt f.n 7 ||| bitAt f.v 6 ||| bitAt true 5 ||| bitAt f.b 4 ||| bitAt f.d 3 ||| bitAt f.i 2 ||| bitAt f.z 1 |||
    bitAt f.c 0

/-- The byte PHP and BRK push: `P | 0x30` (R283, R264). -/
def Flags.pushedByte (f : Flags) : Byte := f.byteView ||| 0x30

/-- The flags after PLP or RTI pull `p` (R284, R265): bit 5 is discarded, and B is loaded only under
`PLP_LOADS_B`. -/
def Flags.pulled (f : Flags) (loadsB : Bool) (p : Byte) : Flags where
  c := p.getLsbD 0
  z := p.getLsbD 1
  i := p.getLsbD 2
  d := p.getLsbD 3
  b := if loadsB then p.getLsbD 4 else f.b
  v := p.getLsbD 6
  n := p.getLsbD 7

/-- A binary ALU result with its carry and overflow. -/
structure AluResult where
  result : Byte
  carry : Bool
  overflow : Bool
  deriving DecidableEq, Repr

/-- `AddBin` (R151). -/
def addBin (a m : Byte) (c : Bool) : AluResult :=
  let s := a.toNat + m.toNat + c.toNat
  let r := BitVec.ofNat 8 s
  { result := r, carry := decide (255 < s), overflow := (~~~(a ^^^ m) &&& (a ^^^ r)).getLsbD 7 }

/-- `SubBin` (R151): the carry is an inverted borrow. -/
def subBin (a m : Byte) (c : Bool) : AluResult := addBin a (~~~m) c

/-- `AddDec` (R153): the result and the carry out. -/
def addDec (a m : Byte) (c : Bool) : Byte × Bool :=
  let lo := a.toNat % 16 + m.toNat % 16 + c.toNat
  let lo := if 9 < lo then lo + 6 else lo
  let hi := a.toNat / 16 + m.toNat / 16 + (if 15 < lo then 1 else 0)
  let hi := if 9 < hi then hi + 6 else hi
  (BitVec.ofNat 8 (hi % 16 * 16 + lo % 16), decide (15 < hi))

/-- `SubDec` (R154): the result and the carry out, which is set when there is no borrow. -/
def subDec (a m : Byte) (c : Bool) : Byte × Bool :=
  let borrow : Int := 1 - c.toNat
  let lo : Int := (a.toNat % 16 : Nat) - (m.toNat % 16 : Nat) - borrow
  let hi : Int := (a.toNat / 16 : Nat) - (m.toNat / 16 : Nat)
  let hi := if lo < 0 then hi - 1 else hi
  let lo := if lo < 0 then lo - 6 else lo
  let hi := if hi < 0 then hi - 6 else hi
  (BitVec.ofInt 8 (hi % 16 * 16 + lo % 16), decide (0 ≤ (a.toNat : Int) - m.toNat - borrow))

/-- A packed BCD byte: "a byte whose two nibbles are each 0..9" (00_scope.md R18). -/
def isPackedBcd (v : Byte) : Bool := decide (v.toNat / 16 ≤ 9) && decide (v.toNat % 16 ≤ 9)

/-- ASL's bit movement (R196): result and carry out. The carry in is ignored. -/
def aslBits (_cin : Bool) (v : Byte) : Byte × Bool := (v <<< 1, v.getLsbD 7)

/-- LSR's bit movement (R197). The carry in is ignored. -/
def lsrBits (_cin : Bool) (v : Byte) : Byte × Bool := (v >>> 1, v.getLsbD 0)

/-- ROL's bit movement (R198). -/
def rolBits (cin : Bool) (v : Byte) : Byte × Bool := (v <<< 1 ||| bitAt cin 0, v.getLsbD 7)

/-- ROR's bit movement (R199). -/
def rorBits (cin : Bool) (v : Byte) : Byte × Bool := (v >>> 1 ||| bitAt cin 7, v.getLsbD 0)

/-- `Compare(r, m)` (R225): C from the unsigned comparison, Z and N from the difference. -/
def Flags.compared (f : Flags) (r m : Byte) : Flags :=
  { f with c := decide (m.toNat ≤ r.toNat) }.setZN (r - m)

end Sys2Proof.Machine
end

