-- ==== Sys2Proof/Machine/Ops.lean ====
section
/-!
DEFINITION. The named operations over memory and registers: the byte bus (20_memory.md R51), the word reads (R52 to
R54), the stack (R57, R58), the register writes, the trap entry of BRK (60_exceptions.md R323) and the return from it
(R329), and the fetch of an instruction's bytes (R65).
-/

namespace Sys2Proof.Machine

/-- The byte at address `k`: the listed one, or what an unlisted address reads as. -/
def Memory.lookup : Memory → Nat → Byte
  | [], _ => Memory.unlisted
  | (k, v) :: m, addr => if k = addr then v else Memory.lookup m addr

/-- Memory without a cell at `addr`. -/
def Memory.remove (m : Memory) (addr : Nat) : Memory := m.filter (fun cell => decide (cell.1 ≠ addr))

/-- Memory with a cell put before the first one at a higher address. -/
def Memory.place : Memory → Nat → Byte → Memory
  | [], addr, v => [(addr, v)]
  | (k, b) :: m, addr, v => if addr < k then (addr, v) :: (k, b) :: m else (k, b) :: Memory.place m addr v

/-- `MemRead(addr, 1)` (R51). -/
def Memory.read (m : Memory) (addr : Word) : Byte := m.lookup addr.toNat

/-- `MemWrite(addr, 1, v)` (R51), keeping the canonical form: a byte equal to what an unlisted address reads as is
not listed. -/
def Memory.write (m : Memory) (addr : Word) (v : Byte) : Memory :=
  if v = Memory.unlisted then m.remove addr.toNat else (m.remove addr.toNat).place addr.toNat v

/-- `ReadWord(addr)` (R52): little-endian, each byte address wrapping mod 65,536. -/
def Memory.readWord (m : Memory) (addr : Word) : Word := wordOf (m.read (addr + 1)) (m.read addr)

/-- `zext_16(v)` (R12). -/
def zext16 (v : Byte) : Word := v.setWidth 16

/-- `sext_16(v)` (R12). -/
def sext16 (v : Byte) : Word := v.signExtend 16

/-- `ReadWordZP(zp)` (R53): both bytes from page 0, the high byte's address wrapping within the byte. -/
def Memory.readWordZP (m : Memory) (zp : Byte) : Word := wordOf (m.read (zext16 (zp + 1))) (m.read (zext16 zp))

/-- `ReadWordPageWrap(a)` (R54): the high byte comes from the same page. -/
def Memory.readWordPageWrap (m : Memory) (addr : Word) : Word :=
  wordOf (m.read (wordOf (hiByte addr) (loByte addr + 1))) (m.read addr)

def State.setA (s : State) (v : Byte) : State := { s with a := v }

def State.setX (s : State) (v : Byte) : State := { s with x := v }

def State.setY (s : State) (v : Byte) : State := { s with y := v }

def State.setSP (s : State) (v : Byte) : State := { s with sp := v }

def State.setPC (s : State) (target : Word) : State := { s with pc := target }

def State.setFlags (s : State) (f : Flags) : State := { s with flags := f }

def State.setMem (s : State) (m : Memory) : State := { s with mem := m }

/-- One more draw of the `Draw` policy has been made (R157). -/
def State.countDraw (s : State) : State := { s with draws := s.draws + 1 }

/-- PC moves `n` bytes on, mod 65,536 (R25, R88). -/
def State.advance (s : State) (n : Nat) : State := s.setPC (s.pc + BitVec.ofNat 16 n)

/-- A read of the bus (R51): it changes nothing. -/
def State.read (s : State) (addr : Word) : Byte := s.mem.read addr

/-- A write of the bus (R51): it changes the one byte. -/
def State.write (s : State) (addr : Word) (v : Byte) : State := s.setMem (s.mem.write addr v)

/-- `SetZN(v)` on the state (R32). -/
def State.setZN (s : State) (v : Byte) : State := s.setFlags (s.flags.setZN v)

/-- `A <- v; SetZN(v)`. -/
def loadedIntoA (v : Byte) (s : State) : State := (s.setA v).setZN v

/-- `X <- v; SetZN(v)`. -/
def loadedIntoX (v : Byte) (s : State) : State := (s.setX v).setZN v

/-- `Y <- v; SetZN(v)`. -/
def loadedIntoY (v : Byte) (s : State) : State := (s.setY v).setZN v

/-- The stack location a stack pointer names: `{0x01, SP}` (R24). -/
def stackAddress (sp : Byte) : Word := wordOf 0x01 sp

/-- `Push(v)` (R57): write, then decrement SP mod 256. -/
def State.push (s : State) (v : Byte) : State := (s.write (stackAddress s.sp) v).setSP (s.sp - 1)

/-- The byte `Pull()` answers (R58): the one at the incremented SP. -/
def State.pulledByte (s : State) : Byte := s.read (stackAddress (s.sp + 1))

/-- What `Pull()` leaves (R58): SP incremented mod 256. -/
def State.pull (s : State) : State := s.setSP (s.sp + 1)

/-- A 16-bit value pushed "high byte first, then low byte" (R260). -/
def State.pushWord (s : State) (w : Word) : State := (s.push (hiByte w)).push (loByte w)

/-- The 16-bit value two pulls answer, "low byte first, then high byte" (R260). -/
def State.pulledWord (s : State) : Word := wordOf s.pull.pulledByte s.pulledByte

/-- Two pulls. -/
def State.pullWord (s : State) : State := s.pull.pull

/-- Taking BRK's trap (R264, R323), from the state whose PC is at the BRK: pc0 +16 2 and then `P | 0x30` are pushed,
I is set, and PC is read from `BRK_VECTOR`, after the pushes (R16, R65). -/
def takeBreak (s : State) : State :=
  let pushed := (s.pushWord (s.pc + 2)).push s.flags.pushedByte
  let masked := pushed.setFlags { pushed.flags with i := true }
  masked.setPC (masked.mem.readWord masked.cfg.brkVector)

/-- `p <- Pull()` and the flags from it (R284, R265). -/
def pullStatus (s : State) : State := s.pull.setFlags (s.flags.pulled s.cfg.plpLoadsB s.pulledByte)

/-- Returning from the trap (R265, R329): the status and then PC are pulled, PC with no +1. -/
def returnFromInterrupt (s : State) : State :=
  let restored := pullStatus s
  restored.pullWord.setPC restored.pulledWord

/-- The first `n` bytes at PC (R81: byte addresses are mod 65,536), read in order (R65). -/
def fetchBytes (s : State) (n : Nat) : List Byte := (List.range n).map (fun k => s.read (s.pc + BitVec.ofNat 16 k))

/-- The bytes of the instruction at PC, exactly as many as its opcode byte says (R65, R84, R86). -/
def fetchInstruction (s : State) : List Byte := fetchBytes s (opcodeLength s.cfg (s.read s.pc))

/-- The bytes written at `addr`, `addr +16 1` and so on, in order (R63). -/
def Memory.writeBytes (m : Memory) (addr : Word) : List Byte → Memory
  | [] => m
  | b :: bytes => Memory.writeBytes (m.write addr b) (addr + 1) bytes

end Sys2Proof.Machine
end

