-- ==== Sys2Proof/Machine/Operands.lean ====
section
/-!
DEFINITION. The addressing-mode resolver (30_encoding.md R87 to R104). The spec's `EA` is one of three kinds (R90): an
address, which every `AddressMode` gives; a value, which `DataSource.immediate` gives; or nothing, which is the
Accumulator form of a shift (`ShiftTarget.accumulator`) and the Implicit instructions, whose meanings take no operand.
So a store cannot be given a value and a load cannot be given nothing (R104).
-/

namespace Sys2Proof.Machine

/-- The modes whose EA is an address, each with the operand field its format carries (R87). -/
inductive AddressMode where
  | zeroPage (zp8 : Byte)
  | zeroPageX (zp8 : Byte)
  | zeroPageY (zp8 : Byte)
  | relative (disp8 : Byte)
  | absolute (addr16 : Word)
  | absoluteX (addr16 : Word)
  | absoluteY (addr16 : Word)
  | indirect (addr16 : Word)
  | indirectX (zp8 : Byte)
  | indirectY (zp8 : Byte)
  deriving DecidableEq, Repr

/-- The mode's tag (R87). -/
def AddressMode.mode : AddressMode → Mode
  | .zeroPage _ => .zeroPage
  | .zeroPageX _ => .zeroPageX
  | .zeroPageY _ => .zeroPageY
  | .relative _ => .relative
  | .absolute _ => .absolute
  | .absoluteX _ => .absoluteX
  | .absoluteY _ => .absoluteY
  | .indirect _ => .indirect
  | .indirectX _ => .indirectX
  | .indirectY _ => .indirectY

/-- The effective address (R92 to R101), in the state after PC has advanced to PC_next (R88): the resolver reads X, Y
and memory as they were at the start of the step. -/
def AddressMode.address (m : AddressMode) (s : State) : Word :=
  match m with
  | .zeroPage zp8 => zext16 zp8
  | .zeroPageX zp8 => zext16 (zp8 + s.x)
  | .zeroPageY zp8 => zext16 (zp8 + s.y)
  | .relative disp8 => s.pc + sext16 disp8
  | .absolute addr16 => addr16
  | .absoluteX addr16 => addr16 + zext16 s.x
  | .absoluteY addr16 => addr16 + zext16 s.y
  | .indirect addr16 => s.mem.readWordPageWrap addr16
  | .indirectX zp8 => s.mem.readWordZP (zp8 + s.x)
  | .indirectY zp8 => s.mem.readWordZP zp8 + zext16 s.y

/-- PC past the opcode and the operand bytes of a mode (R88). -/
def State.advancePast (s : State) (m : Mode) : State := s.advance (1 + m.operandLength)

/-- Where an operand that is only read comes from. -/
inductive DataSource where
  | immediate (imm8 : Byte)
  | memory (m : AddressMode)
  deriving DecidableEq, Repr

/-- The source's mode tag. -/
def DataSource.mode : DataSource → Mode
  | .immediate _ => .immediate
  | .memory m => m.mode

/-- `Operand()` (R104), in the state after PC has advanced. -/
def DataSource.operand (src : DataSource) (s : State) : Byte :=
  match src with
  | .immediate imm8 => imm8
  | .memory m => s.read (m.address s)

/-- What a shift reads and writes (R195). -/
inductive ShiftTarget where
  | accumulator
  | memory (m : AddressMode)
  deriving DecidableEq, Repr

/-- The target's mode tag. -/
def ShiftTarget.mode : ShiftTarget → Mode
  | .accumulator => .accumulator
  | .memory m => m.mode

/-- "Target read" (R195), in the state after PC has advanced. -/
def ShiftTarget.value (t : ShiftTarget) (s : State) : Byte :=
  match t with
  | .accumulator => s.a
  | .memory m => s.read (m.address s)

/-- "Target write" (R195), in the same state. -/
def ShiftTarget.store (t : ShiftTarget) (v : Byte) (s : State) : State :=
  match t with
  | .accumulator => s.setA v
  | .memory m => s.write (m.address s) v

end Sys2Proof.Machine
end

