-- ==== Sys2Proof/Machine/Arithmetic.lean ====
section
/-!
DEFINITION. ADC and SBC (41_arithmetic.md R150 to R159).
-/

namespace Sys2Proof.Machine

/-- A decimal operation on the accumulator and `m` takes its result as a draw: the policy is `Draw` and one of the two
operands is not packed BCD (R157). -/
def State.drawsOn (s : State) (m : Byte) : Bool :=
  s.cfg.nonBcdPolicy == .draw && !(isPackedBcd s.a && isPackedBcd m)

/-- The result and carry of a decimal operation on the accumulator and `m` whose digit algorithm gives `algorithm`
(R157). -/
def State.decimalResult (s : State) (m : Byte) (algorithm : Byte × Bool) : Byte × Bool :=
  if s.drawsOn m then (Config.freeByte s.draws, Config.freeBit s.draws) else algorithm

/-- `A <- r; C <- cout; V <- vb; SetZN(r)` (R158, R159). -/
def State.setSum (s : State) (r : Byte) (cout vb : Bool) : State :=
  (s.setA r).setFlags ({ s.flags with c := cout, v := vb }.setZN r)

/-- The common part of ADC and SBC (R158, R159) on the operand `m`: binary with D = 0, decimal with D = 1. V is the
binary one in both (R155), Z and N follow the result (R156). -/
def accumulate (binary : AluResult) (decimal : Byte × Bool) (m : Byte) (s : State) : State :=
  if s.flags.d then
    let (r, cout) := s.decimalResult m decimal
    (if s.drawsOn m then s.countDraw else s).setSum r cout binary.overflow
  else s.setSum binary.result binary.carry binary.overflow

/-- ADC (R158). -/
def addWithCarry (src : DataSource) (s : State) : State :=
  let s := s.advancePast src.mode
  let m := src.operand s
  accumulate (addBin s.a m s.flags.c) (addDec s.a m s.flags.c) m s

/-- SBC (R159). -/
def subtractWithBorrow (src : DataSource) (s : State) : State :=
  let s := s.advancePast src.mode
  let m := src.operand s
  accumulate (subBin s.a m s.flags.c) (subDec s.a m s.flags.c) m s

/-- `ADC #imm8`, 0x69 (R158, R91). -/
def execAdcImmediate (imm8 : Byte) (s : State) : Host.Outcome State Fault Refusal :=
  .next (addWithCarry (.immediate imm8) s)

/-- `ADC zp`, 0x65 (R158, R92). -/
def execAdcZeroPage (zp8 : Byte) (s : State) : Host.Outcome State Fault Refusal :=
  .next (addWithCarry (.memory (.zeroPage zp8)) s)

/-- `ADC zp,X`, 0x75 (R158, R93). -/
def execAdcZeroPageX (zp8 : Byte) (s : State) : Host.Outcome State Fault Refusal :=
  .next (addWithCarry (.memory (.zeroPageX zp8)) s)

/-- `ADC abs`, 0x6D (R158, R96). -/
def execAdcAbsolute (addr16 : Word) (s : State) : Host.Outcome State Fault Refusal :=
  .next (addWithCarry (.memory (.absolute addr16)) s)

/-- `ADC abs,X`, 0x7D (R158, R97). -/
def execAdcAbsoluteX (addr16 : Word) (s : State) : Host.Outcome State Fault Refusal :=
  .next (addWithCarry (.memory (.absoluteX addr16)) s)

/-- `ADC abs,Y`, 0x79 (R158, R98). -/
def execAdcAbsoluteY (addr16 : Word) (s : State) : Host.Outcome State Fault Refusal :=
  .next (addWithCarry (.memory (.absoluteY addr16)) s)

/-- `ADC (zp,X)`, 0x61 (R158, R100). -/
def execAdcIndirectX (zp8 : Byte) (s : State) : Host.Outcome State Fault Refusal :=
  .next (addWithCarry (.memory (.indirectX zp8)) s)

/-- `ADC (zp),Y`, 0x71 (R158, R101). -/
def execAdcIndirectY (zp8 : Byte) (s : State) : Host.Outcome State Fault Refusal :=
  .next (addWithCarry (.memory (.indirectY zp8)) s)

/-- `SBC #imm8`, 0xE9 (R159, R91). -/
def execSbcImmediate (imm8 : Byte) (s : State) : Host.Outcome State Fault Refusal :=
  .next (subtractWithBorrow (.immediate imm8) s)

/-- `SBC zp`, 0xE5 (R159, R92). -/
def execSbcZeroPage (zp8 : Byte) (s : State) : Host.Outcome State Fault Refusal :=
  .next (subtractWithBorrow (.memory (.zeroPage zp8)) s)

/-- `SBC zp,X`, 0xF5 (R159, R93). -/
def execSbcZeroPageX (zp8 : Byte) (s : State) : Host.Outcome State Fault Refusal :=
  .next (subtractWithBorrow (.memory (.zeroPageX zp8)) s)

/-- `SBC abs`, 0xED (R159, R96). -/
def execSbcAbsolute (addr16 : Word) (s : State) : Host.Outcome State Fault Refusal :=
  .next (subtractWithBorrow (.memory (.absolute addr16)) s)

/-- `SBC abs,X`, 0xFD (R159, R97). -/
def execSbcAbsoluteX (addr16 : Word) (s : State) : Host.Outcome State Fault Refusal :=
  .next (subtractWithBorrow (.memory (.absoluteX addr16)) s)

/-- `SBC abs,Y`, 0xF9 (R159, R98). -/
def execSbcAbsoluteY (addr16 : Word) (s : State) : Host.Outcome State Fault Refusal :=
  .next (subtractWithBorrow (.memory (.absoluteY addr16)) s)

/-- `SBC (zp,X)`, 0xE1 (R159, R100). -/
def execSbcIndirectX (zp8 : Byte) (s : State) : Host.Outcome State Fault Refusal :=
  .next (subtractWithBorrow (.memory (.indirectX zp8)) s)

/-- `SBC (zp),Y`, 0xF1 (R159, R101). -/
def execSbcIndirectY (zp8 : Byte) (s : State) : Host.Outcome State Fault Refusal :=
  .next (subtractWithBorrow (.memory (.indirectY zp8)) s)

end Sys2Proof.Machine
end

