-- ==== Sys2Proof/Machine/Branch.lean ====
section
/-!
DEFINITION. Conditional branches (46_branch.md R240 to R248).
-/

namespace Sys2Proof.Machine

/-- PC becomes the Relative-mode target if the condition holds and stays PC_next if not (R240, R95). -/
def branch (taken : Bool) (disp8 : Byte) (s : State) : State :=
  let s := s.advancePast .relative
  if taken then s.setPC ((AddressMode.relative disp8).address s) else s

/-- `BCC rel`, 0x90 (R241, R95). -/
def execBcc (disp8 : Byte) (s : State) : Host.Outcome State Fault Refusal :=
  .next (branch (!s.flags.c) disp8 s)

/-- `BCS rel`, 0xB0 (R242, R95). -/
def execBcs (disp8 : Byte) (s : State) : Host.Outcome State Fault Refusal :=
  .next (branch s.flags.c disp8 s)

/-- `BEQ rel`, 0xF0 (R243, R95). -/
def execBeq (disp8 : Byte) (s : State) : Host.Outcome State Fault Refusal :=
  .next (branch s.flags.z disp8 s)

/-- `BNE rel`, 0xD0 (R244, R95). -/
def execBne (disp8 : Byte) (s : State) : Host.Outcome State Fault Refusal :=
  .next (branch (!s.flags.z) disp8 s)

/-- `BMI rel`, 0x30 (R245, R95). -/
def execBmi (disp8 : Byte) (s : State) : Host.Outcome State Fault Refusal :=
  .next (branch s.flags.n disp8 s)

/-- `BPL rel`, 0x10 (R246, R95). -/
def execBpl (disp8 : Byte) (s : State) : Host.Outcome State Fault Refusal :=
  .next (branch (!s.flags.n) disp8 s)

/-- `BVC rel`, 0x50 (R247, R95). -/
def execBvc (disp8 : Byte) (s : State) : Host.Outcome State Fault Refusal :=
  .next (branch (!s.flags.v) disp8 s)

/-- `BVS rel`, 0x70 (R248, R95). -/
def execBvs (disp8 : Byte) (s : State) : Host.Outcome State Fault Refusal :=
  .next (branch s.flags.v disp8 s)

end Sys2Proof.Machine
end

