-- ==== Sys2Proof/Machine/Compare.lean ====
section
/-!
DEFINITION. Compare (45_compare.md R225 to R228): binary whatever D holds, and the carry in is ignored.
-/

namespace Sys2Proof.Machine

/-- `Compare(r, Operand())` (R225): only C, Z and N are written. -/
def compareWith (r : Byte) (src : DataSource) (s : State) : State :=
  let s := s.advancePast src.mode
  s.setFlags (s.flags.compared r (src.operand s))

/-- `CMP #imm8`, 0xC9 (R226, R91). -/
def execCmpImmediate (imm8 : Byte) (s : State) : Host.Outcome State Fault Refusal :=
  .next (compareWith s.a (.immediate imm8) s)

/-- `CMP zp`, 0xC5 (R226, R92). -/
def execCmpZeroPage (zp8 : Byte) (s : State) : Host.Outcome State Fault Refusal :=
  .next (compareWith s.a (.memory (.zeroPage zp8)) s)

/-- `CMP zp,X`, 0xD5 (R226, R93). -/
def execCmpZeroPageX (zp8 : Byte) (s : State) : Host.Outcome State Fault Refusal :=
  .next (compareWith s.a (.memory (.zeroPageX zp8)) s)

/-- `CMP abs`, 0xCD (R226, R96). -/
def execCmpAbsolute (addr16 : Word) (s : State) : Host.Outcome State Fault Refusal :=
  .next (compareWith s.a (.memory (.absolute addr16)) s)

/-- `CMP abs,X`, 0xDD (R226, R97). -/
def execCmpAbsoluteX (addr16 : Word) (s : State) : Host.Outcome State Fault Refusal :=
  .next (compareWith s.a (.memory (.absoluteX addr16)) s)

/-- `CMP abs,Y`, 0xD9 (R226, R98). -/
def execCmpAbsoluteY (addr16 : Word) (s : State) : Host.Outcome State Fault Refusal :=
  .next (compareWith s.a (.memory (.absoluteY addr16)) s)

/-- `CMP (zp,X)`, 0xC1 (R226, R100). -/
def execCmpIndirectX (zp8 : Byte) (s : State) : Host.Outcome State Fault Refusal :=
  .next (compareWith s.a (.memory (.indirectX zp8)) s)

/-- `CMP (zp),Y`, 0xD1 (R226, R101). -/
def execCmpIndirectY (zp8 : Byte) (s : State) : Host.Outcome State Fault Refusal :=
  .next (compareWith s.a (.memory (.indirectY zp8)) s)

/-- `CPX #imm8`, 0xE0 (R227, R91). -/
def execCpxImmediate (imm8 : Byte) (s : State) : Host.Outcome State Fault Refusal :=
  .next (compareWith s.x (.immediate imm8) s)

/-- `CPX zp`, 0xE4 (R227, R92). -/
def execCpxZeroPage (zp8 : Byte) (s : State) : Host.Outcome State Fault Refusal :=
  .next (compareWith s.x (.memory (.zeroPage zp8)) s)

/-- `CPX abs`, 0xEC (R227, R96). -/
def execCpxAbsolute (addr16 : Word) (s : State) : Host.Outcome State Fault Refusal :=
  .next (compareWith s.x (.memory (.absolute addr16)) s)

/-- `CPY #imm8`, 0xC0 (R228, R91). -/
def execCpyImmediate (imm8 : Byte) (s : State) : Host.Outcome State Fault Refusal :=
  .next (compareWith s.y (.immediate imm8) s)

/-- `CPY zp`, 0xC4 (R228, R92). -/
def execCpyZeroPage (zp8 : Byte) (s : State) : Host.Outcome State Fault Refusal :=
  .next (compareWith s.y (.memory (.zeroPage zp8)) s)

/-- `CPY abs`, 0xCC (R228, R96). -/
def execCpyAbsolute (addr16 : Word) (s : State) : Host.Outcome State Fault Refusal :=
  .next (compareWith s.y (.memory (.absolute addr16)) s)

end Sys2Proof.Machine
end

