-- ==== Sys2Proof/Machine/FlagTransfer.lean ====
section
/-!
DEFINITION. Flag operations, register transfers and NOP (49_flags_transfer_nop.md R295 to R310). Each is one byte long
and touches no memory.
-/

namespace Sys2Proof.Machine

/-- `CLC`, 0x18 (R296, R89). -/
def execClc (s : State) : Host.Outcome State Fault Refusal :=
  .next ((s.advance 1).setFlags { s.flags with c := false })

/-- `SEC`, 0x38 (R297, R89). -/
def execSec (s : State) : Host.Outcome State Fault Refusal :=
  .next ((s.advance 1).setFlags { s.flags with c := true })

/-- `CLI`, 0x58 (R298, R89). -/
def execCli (s : State) : Host.Outcome State Fault Refusal :=
  .next ((s.advance 1).setFlags { s.flags with i := false })

/-- `SEI`, 0x78 (R299, R89). -/
def execSei (s : State) : Host.Outcome State Fault Refusal :=
  .next ((s.advance 1).setFlags { s.flags with i := true })

/-- `CLD`, 0xD8 (R300, R89). -/
def execCld (s : State) : Host.Outcome State Fault Refusal :=
  .next ((s.advance 1).setFlags { s.flags with d := false })

/-- `SED`, 0xF8 (R301, R89). -/
def execSed (s : State) : Host.Outcome State Fault Refusal :=
  .next ((s.advance 1).setFlags { s.flags with d := true })

/-- `CLV`, 0xB8 (R302, R89). -/
def execClv (s : State) : Host.Outcome State Fault Refusal :=
  .next ((s.advance 1).setFlags { s.flags with v := false })

/-- `TAX`, 0xAA (R304, R89). -/
def execTax (s : State) : Host.Outcome State Fault Refusal :=
  .next (loadedIntoX s.a (s.advance 1))

/-- `TXA`, 0x8A (R305, R89). -/
def execTxa (s : State) : Host.Outcome State Fault Refusal :=
  .next (loadedIntoA s.x (s.advance 1))

/-- `TAY`, 0xA8 (R306, R89). -/
def execTay (s : State) : Host.Outcome State Fault Refusal :=
  .next (loadedIntoY s.a (s.advance 1))

/-- `TYA`, 0x98 (R307, R89). -/
def execTya (s : State) : Host.Outcome State Fault Refusal :=
  .next (loadedIntoA s.y (s.advance 1))

/-- `TSX`, 0xBA (R308, R89). -/
def execTsx (s : State) : Host.Outcome State Fault Refusal :=
  .next (loadedIntoX s.sp (s.advance 1))

/-- `TXS`, 0x9A (R309, R89). -/
def execTxs (s : State) : Host.Outcome State Fault Refusal :=
  .next ((s.advance 1).setSP s.x)

/-- `NOP`, 0xEA (R310, R89). -/
def execNop (s : State) : Host.Outcome State Fault Refusal :=
  .next (s.advance 1)

end Sys2Proof.Machine
end

