-- ==== Sys2Proof/Machine/IncDec.lean ====
section
/-!
DEFINITION. Increment and decrement (42_inc_dec.md R180 to R186): binary whatever D holds.
-/

namespace Sys2Proof.Machine

/-- `v <- f(MemRead(a, 1)); MemWrite(a, 1, v); SetZN(v)` (R181, R182): one read, then one write (R60). -/
def modifyMemory (f : Byte → Byte) (m : AddressMode) (s : State) : State :=
  let s := s.advancePast m.mode
  let v := f (s.read (m.address s))
  (s.write (m.address s) v).setZN v

/-- `INC zp`, 0xE6 (R181, R92). -/
def execIncZeroPage (zp8 : Byte) (s : State) : Host.Outcome State Fault Refusal :=
  .next (modifyMemory (· + 1) (.zeroPage zp8) s)

/-- `INC zp,X`, 0xF6 (R181, R93). -/
def execIncZeroPageX (zp8 : Byte) (s : State) : Host.Outcome State Fault Refusal :=
  .next (modifyMemory (· + 1) (.zeroPageX zp8) s)

/-- `INC abs`, 0xEE (R181, R96). -/
def execIncAbsolute (addr16 : Word) (s : State) : Host.Outcome State Fault Refusal :=
  .next (modifyMemory (· + 1) (.absolute addr16) s)

/-- `INC abs,X`, 0xFE (R181, R97). -/
def execIncAbsoluteX (addr16 : Word) (s : State) : Host.Outcome State Fault Refusal :=
  .next (modifyMemory (· + 1) (.absoluteX addr16) s)

/-- `DEC zp`, 0xC6 (R182, R92). -/
def execDecZeroPage (zp8 : Byte) (s : State) : Host.Outcome State Fault Refusal :=
  .next (modifyMemory (· - 1) (.zeroPage zp8) s)

/-- `DEC zp,X`, 0xD6 (R182, R93). -/
def execDecZeroPageX (zp8 : Byte) (s : State) : Host.Outcome State Fault Refusal :=
  .next (modifyMemory (· - 1) (.zeroPageX zp8) s)

/-- `DEC abs`, 0xCE (R182, R96). -/
def execDecAbsolute (addr16 : Word) (s : State) : Host.Outcome State Fault Refusal :=
  .next (modifyMemory (· - 1) (.absolute addr16) s)

/-- `DEC abs,X`, 0xDE (R182, R97). -/
def execDecAbsoluteX (addr16 : Word) (s : State) : Host.Outcome State Fault Refusal :=
  .next (modifyMemory (· - 1) (.absoluteX addr16) s)

/-- `INX`, 0xE8 (R183, R89). -/
def execInx (s : State) : Host.Outcome State Fault Refusal :=
  .next (loadedIntoX (s.x + 1) (s.advance 1))

/-- `INY`, 0xC8 (R184, R89). -/
def execIny (s : State) : Host.Outcome State Fault Refusal :=
  .next (loadedIntoY (s.y + 1) (s.advance 1))

/-- `DEX`, 0xCA (R185, R89). -/
def execDex (s : State) : Host.Outcome State Fault Refusal :=
  .next (loadedIntoX (s.x - 1) (s.advance 1))

/-- `DEY`, 0x88 (R186, R89). -/
def execDey (s : State) : Host.Outcome State Fault Refusal :=
  .next (loadedIntoY (s.y - 1) (s.advance 1))

end Sys2Proof.Machine
end

