-- ==== Sys2Proof/Machine/JumpCall.lean ====
section
/-!
DEFINITION. Jump, call and return (47_jump_call.md R260 to R267). BRK's trap entry and RTI's return are the shared
operations `takeBreak` and `returnFromInterrupt` of Ops.lean.
-/

namespace Sys2Proof.Machine

/-- `PC <- a` for EA = Address(a) (R261). -/
def jumpTo (m : AddressMode) (s : State) : State :=
  let s := s.advancePast m.mode
  s.setPC (m.address s)

/-- JSR (R262): the address of its own last byte is pushed, then PC becomes the target, whose bytes were read before
the pushes (R65). -/
def callSubroutine (addr16 : Word) (s : State) : State :=
  let s := s.advancePast .absolute
  (s.pushWord (s.pc - 1)).setPC ((AddressMode.absolute addr16).address s)

/-- RTS (R263): PC is the pulled value plus 1. -/
def returnFromSubroutine (s : State) : State := s.pullWord.setPC (s.pulledWord + 1)

/-- `JMP abs`, 0x4C (R261, R96). -/
def execJmpAbsolute (addr16 : Word) (s : State) : Host.Outcome State Fault Refusal :=
  .next (jumpTo (.absolute addr16) s)

/-- `JMP (abs)`, 0x6C (R261, R99). -/
def execJmpIndirect (addr16 : Word) (s : State) : Host.Outcome State Fault Refusal :=
  .next (jumpTo (.indirect addr16) s)

/-- `JSR abs`, 0x20 (R262, R96). -/
def execJsr (addr16 : Word) (s : State) : Host.Outcome State Fault Refusal :=
  .next (callSubroutine addr16 s)

/-- `RTS`, 0x60 (R263, R89). -/
def execRts (s : State) : Host.Outcome State Fault Refusal :=
  .next (returnFromSubroutine (s.advance 1))

/-- `BRK`, 0x00 (R264, R89). -/
def execBrk (s : State) : Host.Outcome State Fault Refusal :=
  .next (takeBreak s)

/-- `RTI`, 0x40 (R265, R89). -/
def execRti (s : State) : Host.Outcome State Fault Refusal :=
  .next (returnFromInterrupt (s.advance 1))

end Sys2Proof.Machine
end

