-- ==== Sys2Proof/Machine/LoadStore.lean ====
section
/-!
DEFINITION. Load and store (40_load_store.md R130 to R136).
-/

namespace Sys2Proof.Machine

/-- `v <- Operand(); A <- v; SetZN(v)` (R131), after PC has advanced (R88). -/
def loadA (src : DataSource) (s : State) : State :=
  let s := s.advancePast src.mode
  loadedIntoA (src.operand s) s

/-- `v <- Operand(); X <- v; SetZN(v)` (R132). -/
def loadX (src : DataSource) (s : State) : State :=
  let s := s.advancePast src.mode
  loadedIntoX (src.operand s) s

/-- `v <- Operand(); Y <- v; SetZN(v)` (R133). -/
def loadY (src : DataSource) (s : State) : State :=
  let s := s.advancePast src.mode
  loadedIntoY (src.operand s) s

/-- `Store(v)` (R104, R134 to R136): one byte written at the effective address, no flag written. -/
def store (v : Byte) (m : AddressMode) (s : State) : State :=
  let s := s.advancePast m.mode
  s.write (m.address s) v

/-- `LDA #imm8`, 0xA9 (R131, R91). -/
def execLdaImmediate (imm8 : Byte) (s : State) : Host.Outcome State Fault Refusal :=
  .next (loadA (.immediate imm8) s)

/-- `LDA zp`, 0xA5 (R131, R92). -/
def execLdaZeroPage (zp8 : Byte) (s : State) : Host.Outcome State Fault Refusal :=
  .next (loadA (.memory (.zeroPage zp8)) s)

/-- `LDA zp,X`, 0xB5 (R131, R93). -/
def execLdaZeroPageX (zp8 : Byte) (s : State) : Host.Outcome State Fault Refusal :=
  .next (loadA (.memory (.zeroPageX zp8)) s)

/-- `LDA abs`, 0xAD (R131, R96). -/
def execLdaAbsolute (addr16 : Word) (s : State) : Host.Outcome State Fault Refusal :=
  .next (loadA (.memory (.absolute addr16)) s)

/-- `LDA abs,X`, 0xBD (R131, R97). -/
def execLdaAbsoluteX (addr16 : Word) (s : State) : Host.Outcome State Fault Refusal :=
  .next (loadA (.memory (.absoluteX addr16)) s)

/-- `LDA abs,Y`, 0xB9 (R131, R98). -/
def execLdaAbsoluteY (addr16 : Word) (s : State) : Host.Outcome State Fault Refusal :=
  .next (loadA (.memory (.absoluteY addr16)) s)

/-- `LDA (zp,X)`, 0xA1 (R131, R100). -/
def execLdaIndirectX (zp8 : Byte) (s : State) : Host.Outcome State Fault Refusal :=
  .next (loadA (.memory (.indirectX zp8)) s)

/-- `LDA (zp),Y`, 0xB1 (R131, R101). -/
def execLdaIndirectY (zp8 : Byte) (s : State) : Host.Outcome State Fault Refusal :=
  .next (loadA (.memory (.indirectY zp8)) s)

/-- `LDX #imm8`, 0xA2 (R132, R91). -/
def execLdxImmediate (imm8 : Byte) (s : State) : Host.Outcome State Fault Refusal :=
  .next (loadX (.immediate imm8) s)

/-- `LDX zp`, 0xA6 (R132, R92). -/
def execLdxZeroPage (zp8 : Byte) (s : State) : Host.Outcome State Fault Refusal :=
  .next (loadX (.memory (.zeroPage zp8)) s)

/-- `LDX zp,Y`, 0xB6 (R132, R94). -/
def execLdxZeroPageY (zp8 : Byte) (s : State) : Host.Outcome State Fault Refusal :=
  .next (loadX (.memory (.zeroPageY zp8)) s)

/-- `LDX abs`, 0xAE (R132, R96). -/
def execLdxAbsolute (addr16 : Word) (s : State) : Host.Outcome State Fault Refusal :=
  .next (loadX (.memory (.absolute addr16)) s)

/-- `LDX abs,Y`, 0xBE (R132, R98). -/
def execLdxAbsoluteY (addr16 : Word) (s : State) : Host.Outcome State Fault Refusal :=
  .next (loadX (.memory (.absoluteY addr16)) s)

/-- `LDY #imm8`, 0xA0 (R133, R91). -/
def execLdyImmediate (imm8 : Byte) (s : State) : Host.Outcome State Fault Refusal :=
  .next (loadY (.immediate imm8) s)

/-- `LDY zp`, 0xA4 (R133, R92). -/
def execLdyZeroPage (zp8 : Byte) (s : State) : Host.Outcome State Fault Refusal :=
  .next (loadY (.memory (.zeroPage zp8)) s)

/-- `LDY zp,X`, 0xB4 (R133, R93). -/
def execLdyZeroPageX (zp8 : Byte) (s : State) : Host.Outcome State Fault Refusal :=
  .next (loadY (.memory (.zeroPageX zp8)) s)

/-- `LDY abs`, 0xAC (R133, R96). -/
def execLdyAbsolute (addr16 : Word) (s : State) : Host.Outcome State Fault Refusal :=
  .next (loadY (.memory (.absolute addr16)) s)

/-- `LDY abs,X`, 0xBC (R133, R97). -/
def execLdyAbsoluteX (addr16 : Word) (s : State) : Host.Outcome State Fault Refusal :=
  .next (loadY (.memory (.absoluteX addr16)) s)

/-- `STA zp`, 0x85 (R134, R92). -/
def execStaZeroPage (zp8 : Byte) (s : State) : Host.Outcome State Fault Refusal :=
  .next (store s.a (.zeroPage zp8) s)

/-- `STA zp,X`, 0x95 (R134, R93). -/
def execStaZeroPageX (zp8 : Byte) (s : State) : Host.Outcome State Fault Refusal :=
  .next (store s.a (.zeroPageX zp8) s)

/-- `STA abs`, 0x8D (R134, R96). -/
def execStaAbsolute (addr16 : Word) (s : State) : Host.Outcome State Fault Refusal :=
  .next (store s.a (.absolute addr16) s)

/-- `STA abs,X`, 0x9D (R134, R97). -/
def execStaAbsoluteX (addr16 : Word) (s : State) : Host.Outcome State Fault Refusal :=
  .next (store s.a (.absoluteX addr16) s)

/-- `STA abs,Y`, 0x99 (R134, R98). -/
def execStaAbsoluteY (addr16 : Word) (s : State) : Host.Outcome State Fault Refusal :=
  .next (store s.a (.absoluteY addr16) s)

/-- `STA (zp,X)`, 0x81 (R134, R100). -/
def execStaIndirectX (zp8 : Byte) (s : State) : Host.Outcome State Fault Refusal :=
  .next (store s.a (.indirectX zp8) s)

/-- `STA (zp),Y`, 0x91 (R134, R101). -/
def execStaIndirectY (zp8 : Byte) (s : State) : Host.Outcome State Fault Refusal :=
  .next (store s.a (.indirectY zp8) s)

/-- `STX zp`, 0x86 (R135, R92). -/
def execStxZeroPage (zp8 : Byte) (s : State) : Host.Outcome State Fault Refusal :=
  .next (store s.x (.zeroPage zp8) s)

/-- `STX zp,Y`, 0x96 (R135, R94). -/
def execStxZeroPageY (zp8 : Byte) (s : State) : Host.Outcome State Fault Refusal :=
  .next (store s.x (.zeroPageY zp8) s)

/-- `STX abs`, 0x8E (R135, R96). -/
def execStxAbsolute (addr16 : Word) (s : State) : Host.Outcome State Fault Refusal :=
  .next (store s.x (.absolute addr16) s)

/-- `STY zp`, 0x84 (R136, R92). -/
def execStyZeroPage (zp8 : Byte) (s : State) : Host.Outcome State Fault Refusal :=
  .next (store s.y (.zeroPage zp8) s)

/-- `STY zp,X`, 0x94 (R136, R93). -/
def execStyZeroPageX (zp8 : Byte) (s : State) : Host.Outcome State Fault Refusal :=
  .next (store s.y (.zeroPageX zp8) s)

/-- `STY abs`, 0x8C (R136, R96). -/
def execStyAbsolute (addr16 : Word) (s : State) : Host.Outcome State Fault Refusal :=
  .next (store s.y (.absolute addr16) s)

end Sys2Proof.Machine
end

