-- ==== Sys2Proof/Machine/Logic.lean ====
section
/-!
DEFINITION. Logic and bit test (44_logic_bit.md R210 to R214).
-/

namespace Sys2Proof.Machine

/-- `A <- f(A, Operand()); SetZN(A)` (R211 to R213). -/
def logicA (f : Byte → Byte → Byte) (src : DataSource) (s : State) : State :=
  let s := s.advancePast src.mode
  loadedIntoA (f s.a (src.operand s)) s

/-- BIT (R214): Z from `A & m`, N and V from bits 7 and 6 of `m`; A is not written. -/
def bitTest (mode : AddressMode) (s : State) : State :=
  let s := s.advancePast mode.mode
  let m := s.read (mode.address s)
  s.setFlags { s.flags with z := s.a &&& m == 0, n := m.getLsbD 7, v := m.getLsbD 6 }

/-- `AND #imm8`, 0x29 (R211, R91). -/
def execAndImmediate (imm8 : Byte) (s : State) : Host.Outcome State Fault Refusal :=
  .next (logicA (· &&& ·) (.immediate imm8) s)

/-- `AND zp`, 0x25 (R211, R92). -/
def execAndZeroPage (zp8 : Byte) (s : State) : Host.Outcome State Fault Refusal :=
  .next (logicA (· &&& ·) (.memory (.zeroPage zp8)) s)

/-- `AND zp,X`, 0x35 (R211, R93). -/
def execAndZeroPageX (zp8 : Byte) (s : State) : Host.Outcome State Fault Refusal :=
  .next (logicA (· &&& ·) (.memory (.zeroPageX zp8)) s)

/-- `AND abs`, 0x2D (R211, R96). -/
def execAndAbsolute (addr16 : Word) (s : State) : Host.Outcome State Fault Refusal :=
  .next (logicA (· &&& ·) (.memory (.absolute addr16)) s)

/-- `AND abs,X`, 0x3D (R211, R97). -/
def execAndAbsoluteX (addr16 : Word) (s : State) : Host.Outcome State Fault Refusal :=
  .next (logicA (· &&& ·) (.memory (.absoluteX addr16)) s)

/-- `AND abs,Y`, 0x39 (R211, R98). -/
def execAndAbsoluteY (addr16 : Word) (s : State) : Host.Outcome State Fault Refusal :=
  .next (logicA (· &&& ·) (.memory (.absoluteY addr16)) s)

/-- `AND (zp,X)`, 0x21 (R211, R100). -/
def execAndIndirectX (zp8 : Byte) (s : State) : Host.Outcome State Fault Refusal :=
  .next (logicA (· &&& ·) (.memory (.indirectX zp8)) s)

/-- `AND (zp),Y`, 0x31 (R211, R101). -/
def execAndIndirectY (zp8 : Byte) (s : State) : Host.Outcome State Fault Refusal :=
  .next (logicA (· &&& ·) (.memory (.indirectY zp8)) s)

/-- `ORA #imm8`, 0x09 (R212, R91). -/
def execOraImmediate (imm8 : Byte) (s : State) : Host.Outcome State Fault Refusal :=
  .next (logicA (· ||| ·) (.immediate imm8) s)

/-- `ORA zp`, 0x05 (R212, R92). -/
def execOraZeroPage (zp8 : Byte) (s : State) : Host.Outcome State Fault Refusal :=
  .next (logicA (· ||| ·) (.memory (.zeroPage zp8)) s)

/-- `ORA zp,X`, 0x15 (R212, R93). -/
def execOraZeroPageX (zp8 : Byte) (s : State) : Host.Outcome State Fault Refusal :=
  .next (logicA (· ||| ·) (.memory (.zeroPageX zp8)) s)

/-- `ORA abs`, 0x0D (R212, R96). -/
def execOraAbsolute (addr16 : Word) (s : State) : Host.Outcome State Fault Refusal :=
  .next (logicA (· ||| ·) (.memory (.absolute addr16)) s)

/-- `ORA abs,X`, 0x1D (R212, R97). -/
def execOraAbsoluteX (addr16 : Word) (s : State) : Host.Outcome State Fault Refusal :=
  .next (logicA (· ||| ·) (.memory (.absoluteX addr16)) s)

/-- `ORA abs,Y`, 0x19 (R212, R98). -/
def execOraAbsoluteY (addr16 : Word) (s : State) : Host.Outcome State Fault Refusal :=
  .next (logicA (· ||| ·) (.memory (.absoluteY addr16)) s)

/-- `ORA (zp,X)`, 0x01 (R212, R100). -/
def execOraIndirectX (zp8 : Byte) (s : State) : Host.Outcome State Fault Refusal :=
  .next (logicA (· ||| ·) (.memory (.indirectX zp8)) s)

/-- `ORA (zp),Y`, 0x11 (R212, R101). -/
def execOraIndirectY (zp8 : Byte) (s : State) : Host.Outcome State Fault Refusal :=
  .next (logicA (· ||| ·) (.memory (.indirectY zp8)) s)

/-- `EOR #imm8`, 0x49 (R213, R91). -/
def execEorImmediate (imm8 : Byte) (s : State) : Host.Outcome State Fault Refusal :=
  .next (logicA (· ^^^ ·) (.immediate imm8) s)

/-- `EOR zp`, 0x45 (R213, R92). -/
def execEorZeroPage (zp8 : Byte) (s : State) : Host.Outcome State Fault Refusal :=
  .next (logicA (· ^^^ ·) (.memory (.zeroPage zp8)) s)

/-- `EOR zp,X`, 0x55 (R213, R93). -/
def execEorZeroPageX (zp8 : Byte) (s : State) : Host.Outcome State Fault Refusal :=
  .next (logicA (· ^^^ ·) (.memory (.zeroPageX zp8)) s)

/-- `EOR abs`, 0x4D (R213, R96). -/
def execEorAbsolute (addr16 : Word) (s : State) : Host.Outcome State Fault Refusal :=
  .next (logicA (· ^^^ ·) (.memory (.absolute addr16)) s)

/-- `EOR abs,X`, 0x5D (R213, R97). -/
def execEorAbsoluteX (addr16 : Word) (s : State) : Host.Outcome State Fault Refusal :=
  .next (logicA (· ^^^ ·) (.memory (.absoluteX addr16)) s)

/-- `EOR abs,Y`, 0x59 (R213, R98). -/
def execEorAbsoluteY (addr16 : Word) (s : State) : Host.Outcome State Fault Refusal :=
  .next (logicA (· ^^^ ·) (.memory (.absoluteY addr16)) s)

/-- `EOR (zp,X)`, 0x41 (R213, R100). -/
def execEorIndirectX (zp8 : Byte) (s : State) : Host.Outcome State Fault Refusal :=
  .next (logicA (· ^^^ ·) (.memory (.indirectX zp8)) s)

/-- `EOR (zp),Y`, 0x51 (R213, R101). -/
def execEorIndirectY (zp8 : Byte) (s : State) : Host.Outcome State Fault Refusal :=
  .next (logicA (· ^^^ ·) (.memory (.indirectY zp8)) s)

/-- `BIT zp`, 0x24 (R214, R92). -/
def execBitZeroPage (zp8 : Byte) (s : State) : Host.Outcome State Fault Refusal :=
  .next (bitTest (.zeroPage zp8) s)

/-- `BIT abs`, 0x2C (R214, R96). -/
def execBitAbsolute (addr16 : Word) (s : State) : Host.Outcome State Fault Refusal :=
  .next (bitTest (.absolute addr16) s)

end Sys2Proof.Machine
end

