-- ==== Sys2Proof/Machine/Shift.lean ====
section
/-!
DEFINITION. Shifts and rotates (43_shift_rotate.md R195 to R199).
-/

namespace Sys2Proof.Machine

/-- `v <- target; C <- …; r <- …; target <- r; SetZN(r)` (R195 to R199), for the bit movement `bits` of one
instruction, which takes the carry in and the target's value and gives the result and the carry out. -/
def shiftTarget (bits : Bool → Byte → Byte × Bool) (t : ShiftTarget) (s : State) : State :=
  let s := s.advancePast t.mode
  let (r, cout) := bits s.flags.c (t.value s)
  (t.store r s).setFlags ({ s.flags with c := cout }.setZN r)

/-- `ASL A`, 0x0A (R196, R89). -/
def execAslAccumulator (s : State) : Host.Outcome State Fault Refusal :=
  .next (shiftTarget aslBits .accumulator s)

/-- `ASL zp`, 0x06 (R196, R92). -/
def execAslZeroPage (zp8 : Byte) (s : State) : Host.Outcome State Fault Refusal :=
  .next (shiftTarget aslBits (.memory (.zeroPage zp8)) s)

/-- `ASL zp,X`, 0x16 (R196, R93). -/
def execAslZeroPageX (zp8 : Byte) (s : State) : Host.Outcome State Fault Refusal :=
  .next (shiftTarget aslBits (.memory (.zeroPageX zp8)) s)

/-- `ASL abs`, 0x0E (R196, R96). -/
def execAslAbsolute (addr16 : Word) (s : State) : Host.Outcome State Fault Refusal :=
  .next (shiftTarget aslBits (.memory (.absolute addr16)) s)

/-- `ASL abs,X`, 0x1E (R196, R97). -/
def execAslAbsoluteX (addr16 : Word) (s : State) : Host.Outcome State Fault Refusal :=
  .next (shiftTarget aslBits (.memory (.absoluteX addr16)) s)

/-- `LSR A`, 0x4A (R197, R89). -/
def execLsrAccumulator (s : State) : Host.Outcome State Fault Refusal :=
  .next (shiftTarget lsrBits .accumulator s)

/-- `LSR zp`, 0x46 (R197, R92). -/
def execLsrZeroPage (zp8 : Byte) (s : State) : Host.Outcome State Fault Refusal :=
  .next (shiftTarget lsrBits (.memory (.zeroPage zp8)) s)

/-- `LSR zp,X`, 0x56 (R197, R93). -/
def execLsrZeroPageX (zp8 : Byte) (s : State) : Host.Outcome State Fault Refusal :=
  .next (shiftTarget lsrBits (.memory (.zeroPageX zp8)) s)

/-- `LSR abs`, 0x4E (R197, R96). -/
def execLsrAbsolute (addr16 : Word) (s : State) : Host.Outcome State Fault Refusal :=
  .next (shiftTarget lsrBits (.memory (.absolute addr16)) s)

/-- `LSR abs,X`, 0x5E (R197, R97). -/
def execLsrAbsoluteX (addr16 : Word) (s : State) : Host.Outcome State Fault Refusal :=
  .next (shiftTarget lsrBits (.memory (.absoluteX addr16)) s)

/-- `ROL A`, 0x2A (R198, R89). -/
def execRolAccumulator (s : State) : Host.Outcome State Fault Refusal :=
  .next (shiftTarget rolBits .accumulator s)

/-- `ROL zp`, 0x26 (R198, R92). -/
def execRolZeroPage (zp8 : Byte) (s : State) : Host.Outcome State Fault Refusal :=
  .next (shiftTarget rolBits (.memory (.zeroPage zp8)) s)

/-- `ROL zp,X`, 0x36 (R198, R93). -/
def execRolZeroPageX (zp8 : Byte) (s : State) : Host.Outcome State Fault Refusal :=
  .next (shiftTarget rolBits (.memory (.zeroPageX zp8)) s)

/-- `ROL abs`, 0x2E (R198, R96). -/
def execRolAbsolute (addr16 : Word) (s : State) : Host.Outcome State Fault Refusal :=
  .next (shiftTarget rolBits (.memory (.absolute addr16)) s)

/-- `ROL abs,X`, 0x3E (R198, R97). -/
def execRolAbsoluteX (addr16 : Word) (s : State) : Host.Outcome State Fault Refusal :=
  .next (shiftTarget rolBits (.memory (.absoluteX addr16)) s)

/-- `ROR A`, 0x6A (R199, R89). -/
def execRorAccumulator (s : State) : Host.Outcome State Fault Refusal :=
  .next (shiftTarget rorBits .accumulator s)

/-- `ROR zp`, 0x66 (R199, R92). -/
def execRorZeroPage (zp8 : Byte) (s : State) : Host.Outcome State Fault Refusal :=
  .next (shiftTarget rorBits (.memory (.zeroPage zp8)) s)

/-- `ROR zp,X`, 0x76 (R199, R93). -/
def execRorZeroPageX (zp8 : Byte) (s : State) : Host.Outcome State Fault Refusal :=
  .next (shiftTarget rorBits (.memory (.zeroPageX zp8)) s)

/-- `ROR abs`, 0x6E (R199, R96). -/
def execRorAbsolute (addr16 : Word) (s : State) : Host.Outcome State Fault Refusal :=
  .next (shiftTarget rorBits (.memory (.absolute addr16)) s)

/-- `ROR abs,X`, 0x7E (R199, R97). -/
def execRorAbsoluteX (addr16 : Word) (s : State) : Host.Outcome State Fault Refusal :=
  .next (shiftTarget rorBits (.memory (.absoluteX addr16)) s)

end Sys2Proof.Machine
end

