-- ==== Sys2Proof/Machine/Stack.lean ====
section
/-!
DEFINITION. Stack instructions (48_stack.md R280 to R284). PLP's flag load is the shared operation `pullStatus` of
Ops.lean.
-/

namespace Sys2Proof.Machine

/-- `A <- Pull(); SetZN(A)` (R282). -/
def pullA (s : State) : State := loadedIntoA s.pulledByte s.pull

/-- `PHA`, 0x48 (R281, R89). -/
def execPha (s : State) : Host.Outcome State Fault Refusal :=
  .next ((s.advance 1).push s.a)

/-- `PLA`, 0x68 (R282, R89). -/
def execPla (s : State) : Host.Outcome State Fault Refusal :=
  .next (pullA (s.advance 1))

/-- `PHP`, 0x08 (R283, R89). -/
def execPhp (s : State) : Host.Outcome State Fault Refusal :=
  .next ((s.advance 1).push s.flags.pushedByte)

/-- `PLP`, 0x28 (R284, R89). -/
def execPlp (s : State) : Host.Outcome State Fault Refusal :=
  .next (pullStatus (s.advance 1))

end Sys2Proof.Machine
end

