-- ==== Sys2Proof/Machine/Dispatch.lean ====
section
/-!
DEFINITION. One arm per constructor of `Instr`: the operation of each descriptor (30_encoding.md R83).
-/

namespace Sys2Proof.Machine

def exec (i : Instr) (s : State) : Host.Outcome State Fault Refusal :=
  match i with
  -- Load and store (40_load_store.md)
  | .ldaImmediate imm8 => Sys2Proof.Machine.execLdaImmediate imm8 s
  | .ldaZeroPage zp8 => Sys2Proof.Machine.execLdaZeroPage zp8 s
  | .ldaZeroPageX zp8 => Sys2Proof.Machine.execLdaZeroPageX zp8 s
  | .ldaAbsolute addr16 => Sys2Proof.Machine.execLdaAbsolute addr16 s
  | .ldaAbsoluteX addr16 => Sys2Proof.Machine.execLdaAbsoluteX addr16 s
  | .ldaAbsoluteY addr16 => Sys2Proof.Machine.execLdaAbsoluteY addr16 s
  | .ldaIndirectX zp8 => Sys2Proof.Machine.execLdaIndirectX zp8 s
  | .ldaIndirectY zp8 => Sys2Proof.Machine.execLdaIndirectY zp8 s
  | .ldxImmediate imm8 => Sys2Proof.Machine.execLdxImmediate imm8 s
  | .ldxZeroPage zp8 => Sys2Proof.Machine.execLdxZeroPage zp8 s
  | .ldxZeroPageY zp8 => Sys2Proof.Machine.execLdxZeroPageY zp8 s
  | .ldxAbsolute addr16 => Sys2Proof.Machine.execLdxAbsolute addr16 s
  | .ldxAbsoluteY addr16 => Sys2Proof.Machine.execLdxAbsoluteY addr16 s
  | .ldyImmediate imm8 => Sys2Proof.Machine.execLdyImmediate imm8 s
  | .ldyZeroPage zp8 => Sys2Proof.Machine.execLdyZeroPage zp8 s
  | .ldyZeroPageX zp8 => Sys2Proof.Machine.execLdyZeroPageX zp8 s
  | .ldyAbsolute addr16 => Sys2Proof.Machine.execLdyAbsolute addr16 s
  | .ldyAbsoluteX addr16 => Sys2Proof.Machine.execLdyAbsoluteX addr16 s
  | .staZeroPage zp8 => Sys2Proof.Machine.execStaZeroPage zp8 s
  | .staZeroPageX zp8 => Sys2Proof.Machine.execStaZeroPageX zp8 s
  | .staAbsolute addr16 => Sys2Proof.Machine.execStaAbsolute addr16 s
  | .staAbsoluteX addr16 => Sys2Proof.Machine.execStaAbsoluteX addr16 s
  | .staAbsoluteY addr16 => Sys2Proof.Machine.execStaAbsoluteY addr16 s
  | .staIndirectX zp8 => Sys2Proof.Machine.execStaIndirectX zp8 s
  | .staIndirectY zp8 => Sys2Proof.Machine.execStaIndirectY zp8 s
  | .stxZeroPage zp8 => Sys2Proof.Machine.execStxZeroPage zp8 s
  | .stxZeroPageY zp8 => Sys2Proof.Machine.execStxZeroPageY zp8 s
  | .stxAbsolute addr16 => Sys2Proof.Machine.execStxAbsolute addr16 s
  | .styZeroPage zp8 => Sys2Proof.Machine.execStyZeroPage zp8 s
  | .styZeroPageX zp8 => Sys2Proof.Machine.execStyZeroPageX zp8 s
  | .styAbsolute addr16 => Sys2Proof.Machine.execStyAbsolute addr16 s
  -- Arithmetic (41_arithmetic.md)
  | .adcImmediate imm8 => Sys2Proof.Machine.execAdcImmediate imm8 s
  | .adcZeroPage zp8 => Sys2Proof.Machine.execAdcZeroPage zp8 s
  | .adcZeroPageX zp8 => Sys2Proof.Machine.execAdcZeroPageX zp8 s
  | .adcAbsolute addr16 => Sys2Proof.Machine.execAdcAbsolute addr16 s
  | .adcAbsoluteX addr16 => Sys2Proof.Machine.execAdcAbsoluteX addr16 s
  | .adcAbsoluteY addr16 => Sys2Proof.Machine.execAdcAbsoluteY addr16 s
  | .adcIndirectX zp8 => Sys2Proof.Machine.execAdcIndirectX zp8 s
  | .adcIndirectY zp8 => Sys2Proof.Machine.execAdcIndirectY zp8 s
  | .sbcImmediate imm8 => Sys2Proof.Machine.execSbcImmediate imm8 s
  | .sbcZeroPage zp8 => Sys2Proof.Machine.execSbcZeroPage zp8 s
  | .sbcZeroPageX zp8 => Sys2Proof.Machine.execSbcZeroPageX zp8 s
  | .sbcAbsolute addr16 => Sys2Proof.Machine.execSbcAbsolute addr16 s
  | .sbcAbsoluteX addr16 => Sys2Proof.Machine.execSbcAbsoluteX addr16 s
  | .sbcAbsoluteY addr16 => Sys2Proof.Machine.execSbcAbsoluteY addr16 s
  | .sbcIndirectX zp8 => Sys2Proof.Machine.execSbcIndirectX zp8 s
  | .sbcIndirectY zp8 => Sys2Proof.Machine.execSbcIndirectY zp8 s
  -- Increment and decrement (42_inc_dec.md)
  | .incZeroPage zp8 => Sys2Proof.Machine.execIncZeroPage zp8 s
  | .incZeroPageX zp8 => Sys2Proof.Machine.execIncZeroPageX zp8 s
  | .incAbsolute addr16 => Sys2Proof.Machine.execIncAbsolute addr16 s
  | .incAbsoluteX addr16 => Sys2Proof.Machine.execIncAbsoluteX addr16 s
  | .decZeroPage zp8 => Sys2Proof.Machine.execDecZeroPage zp8 s
  | .decZeroPageX zp8 => Sys2Proof.Machine.execDecZeroPageX zp8 s
  | .decAbsolute addr16 => Sys2Proof.Machine.execDecAbsolute addr16 s
  | .decAbsoluteX addr16 => Sys2Proof.Machine.execDecAbsoluteX addr16 s
  | .inx => Sys2Proof.Machine.execInx s
  | .iny => Sys2Proof.Machine.execIny s
  | .dex => Sys2Proof.Machine.execDex s
  | .dey => Sys2Proof.Machine.execDey s
  -- Shifts and rotates (43_shift_rotate.md)
  | .aslAccumulator => Sys2Proof.Machine.execAslAccumulator s
  | .aslZeroPage zp8 => Sys2Proof.Machine.execAslZeroPage zp8 s
  | .aslZeroPageX zp8 => Sys2Proof.Machine.execAslZeroPageX zp8 s
  | .aslAbsolute addr16 => Sys2Proof.Machine.execAslAbsolute addr16 s
  | .aslAbsoluteX addr16 => Sys2Proof.Machine.execAslAbsoluteX addr16 s
  | .lsrAccumulator => Sys2Proof.Machine.execLsrAccumulator s
  | .lsrZeroPage zp8 => Sys2Proof.Machine.execLsrZeroPage zp8 s
  | .lsrZeroPageX zp8 => Sys2Proof.Machine.execLsrZeroPageX zp8 s
  | .lsrAbsolute addr16 => Sys2Proof.Machine.execLsrAbsolute addr16 s
  | .lsrAbsoluteX addr16 => Sys2Proof.Machine.execLsrAbsoluteX addr16 s
  | .rolAccumulator => Sys2Proof.Machine.execRolAccumulator s
  | .rolZeroPage zp8 => Sys2Proof.Machine.execRolZeroPage zp8 s
  | .rolZeroPageX zp8 => Sys2Proof.Machine.execRolZeroPageX zp8 s
  | .rolAbsolute addr16 => Sys2Proof.Machine.execRolAbsolute addr16 s
  | .rolAbsoluteX addr16 => Sys2Proof.Machine.execRolAbsoluteX addr16 s
  | .rorAccumulator => Sys2Proof.Machine.execRorAccumulator s
  | .rorZeroPage zp8 => Sys2Proof.Machine.execRorZeroPage zp8 s
  | .rorZeroPageX zp8 => Sys2Proof.Machine.execRorZeroPageX zp8 s
  | .rorAbsolute addr16 => Sys2Proof.Machine.execRorAbsolute addr16 s
  | .rorAbsoluteX addr16 => Sys2Proof.Machine.execRorAbsoluteX addr16 s
  -- Logic and bit test (44_logic_bit.md)
  | .andImmediate imm8 => Sys2Proof.Machine.execAndImmediate imm8 s
  | .andZeroPage zp8 => Sys2Proof.Machine.execAndZeroPage zp8 s
  | .andZeroPageX zp8 => Sys2Proof.Machine.execAndZeroPageX zp8 s
  | .andAbsolute addr16 => Sys2Proof.Machine.execAndAbsolute addr16 s
  | .andAbsoluteX addr16 => Sys2Proof.Machine.execAndAbsoluteX addr16 s
  | .andAbsoluteY addr16 => Sys2Proof.Machine.execAndAbsoluteY addr16 s
  | .andIndirectX zp8 => Sys2Proof.Machine.execAndIndirectX zp8 s
  | .andIndirectY zp8 => Sys2Proof.Machine.execAndIndirectY zp8 s
  | .oraImmediate imm8 => Sys2Proof.Machine.execOraImmediate imm8 s
  | .oraZeroPage zp8 => Sys2Proof.Machine.execOraZeroPage zp8 s
  | .oraZeroPageX zp8 => Sys2Proof.Machine.execOraZeroPageX zp8 s
  | .oraAbsolute addr16 => Sys2Proof.Machine.execOraAbsolute addr16 s
  | .oraAbsoluteX addr16 => Sys2Proof.Machine.execOraAbsoluteX addr16 s
  | .oraAbsoluteY addr16 => Sys2Proof.Machine.execOraAbsoluteY addr16 s
  | .oraIndirectX zp8 => Sys2Proof.Machine.execOraIndirectX zp8 s
  | .oraIndirectY zp8 => Sys2Proof.Machine.execOraIndirectY zp8 s
  | .eorImmediate imm8 => Sys2Proof.Machine.execEorImmediate imm8 s
  | .eorZeroPage zp8 => Sys2Proof.Machine.execEorZeroPage zp8 s
  | .eorZeroPageX zp8 => Sys2Proof.Machine.execEorZeroPageX zp8 s
  | .eorAbsolute addr16 => Sys2Proof.Machine.execEorAbsolute addr16 s
  | .eorAbsoluteX addr16 => Sys2Proof.Machine.execEorAbsoluteX addr16 s
  | .eorAbsoluteY addr16 => Sys2Proof.Machine.execEorAbsoluteY addr16 s
  | .eorIndirectX zp8 => Sys2Proof.Machine.execEorIndirectX zp8 s
  | .eorIndirectY zp8 => Sys2Proof.Machine.execEorIndirectY zp8 s
  | .bitZeroPage zp8 => Sys2Proof.Machine.execBitZeroPage zp8 s
  | .bitAbsolute addr16 => Sys2Proof.Machine.execBitAbsolute addr16 s
  -- Compare (45_compare.md)
  | .cmpImmediate imm8 => Sys2Proof.Machine.execCmpImmediate imm8 s
  | .cmpZeroPage zp8 => Sys2Proof.Machine.execCmpZeroPage zp8 s
  | .cmpZeroPageX zp8 => Sys2Proof.Machine.execCmpZeroPageX zp8 s
  | .cmpAbsolute addr16 => Sys2Proof.Machine.execCmpAbsolute addr16 s
  | .cmpAbsoluteX addr16 => Sys2Proof.Machine.execCmpAbsoluteX addr16 s
  | .cmpAbsoluteY addr16 => Sys2Proof.Machine.execCmpAbsoluteY addr16 s
  | .cmpIndirectX zp8 => Sys2Proof.Machine.execCmpIndirectX zp8 s
  | .cmpIndirectY zp8 => Sys2Proof.Machine.execCmpIndirectY zp8 s
  | .cpxImmediate imm8 => Sys2Proof.Machine.execCpxImmediate imm8 s
  | .cpxZeroPage zp8 => Sys2Proof.Machine.execCpxZeroPage zp8 s
  | .cpxAbsolute addr16 => Sys2Proof.Machine.execCpxAbsolute addr16 s
  | .cpyImmediate imm8 => Sys2Proof.Machine.execCpyImmediate imm8 s
  | .cpyZeroPage zp8 => Sys2Proof.Machine.execCpyZeroPage zp8 s
  | .cpyAbsolute addr16 => Sys2Proof.Machine.execCpyAbsolute addr16 s
  -- Conditional branches (46_branch.md)
  | .bcc disp8 => Sys2Proof.Machine.execBcc disp8 s
  | .bcs disp8 => Sys2Proof.Machine.execBcs disp8 s
  | .beq disp8 => Sys2Proof.Machine.execBeq disp8 s
  | .bne disp8 => Sys2Proof.Machine.execBne disp8 s
  | .bmi disp8 => Sys2Proof.Machine.execBmi disp8 s
  | .bpl disp8 => Sys2Proof.Machine.execBpl disp8 s
  | .bvc disp8 => Sys2Proof.Machine.execBvc disp8 s
  | .bvs disp8 => Sys2Proof.Machine.execBvs disp8 s
  -- Jump, call and return (47_jump_call.md)
  | .jmpAbsolute addr16 => Sys2Proof.Machine.execJmpAbsolute addr16 s
  | .jmpIndirect addr16 => Sys2Proof.Machine.execJmpIndirect addr16 s
  | .jsr addr16 => Sys2Proof.Machine.execJsr addr16 s
  | .rts => Sys2Proof.Machine.execRts s
  | .brk => Sys2Proof.Machine.execBrk s
  | .rti => Sys2Proof.Machine.execRti s
  -- Stack (48_stack.md)
  | .pha => Sys2Proof.Machine.execPha s
  | .pla => Sys2Proof.Machine.execPla s
  | .php => Sys2Proof.Machine.execPhp s
  | .plp => Sys2Proof.Machine.execPlp s
  -- Flag operations, transfers, NOP (49_flags_transfer_nop.md)
  | .clc => Sys2Proof.Machine.execClc s
  | .sec => Sys2Proof.Machine.execSec s
  | .cli => Sys2Proof.Machine.execCli s
  | .sei => Sys2Proof.Machine.execSei s
  | .cld => Sys2Proof.Machine.execCld s
  | .sed => Sys2Proof.Machine.execSed s
  | .clv => Sys2Proof.Machine.execClv s
  | .tax => Sys2Proof.Machine.execTax s
  | .txa => Sys2Proof.Machine.execTxa s
  | .tay => Sys2Proof.Machine.execTay s
  | .tya => Sys2Proof.Machine.execTya s
  | .tsx => Sys2Proof.Machine.execTsx s
  | .txs => Sys2Proof.Machine.execTxs s
  | .nop => Sys2Proof.Machine.execNop s

end Sys2Proof.Machine
end

