-- ==== Sys2Proof/Machine/Step.lean ====
section
/-!
DEFINITION. One step (70_reset_and_hazards.md R356): fetch, decode, execute. `withFetchWord` puts one instruction
where the next step fetches.
-/

namespace Sys2Proof.Machine

/-- `step()` (R356): the instruction at PC is fetched and decoded; an opcode byte without a descriptor raises
DecodeError with the state as it was (R320), any other instruction is executed. Each meaning moves PC past its own
bytes before its operation (R88). -/
def step (s : State) : Host.Outcome State Fault Refusal :=
  match decode s.cfg (fetchInstruction s) with
  | .instr i _ => exec i s
  | .rejected _ => .fault (.decodeError s.pc (s.read s.pc))

/-- The state with the instruction of a table word stored at PC. The bus is the only place a program comes from (R63):
this stands for the load by the caller (notes/assumptions/4.md). -/
def State.withFetchWord (s : State) (nbits w : Nat) : State :=
  s.setMem (s.mem.writeBytes s.pc (tableBytes nbits w))

end Sys2Proof.Machine
end

