-- ==== Sys2Proof/Machine/Construct.lean ====
section
/-!
DEFINITION. Construction and reset (70_reset_and_hazards.md R350 to R354), with every parameter of 00_scope.md R9.
-/

namespace Sys2Proof.Machine

/-- A supplied processor state (R351): A, X, Y, SP, PC and the seven flags. -/
structure InitState where
  a : Byte
  x : Byte
  y : Byte
  sp : Byte
  pc : Word
  flags : Flags
  deriving DecidableEq, Repr

/-- A segment of the program image: bytes at an offset (R9, R350). -/
structure Segment where
  offset : Word
  bytes : List Byte
  deriving DecidableEq, Repr

/-- The arguments of construction (R9, R350). -/
structure Params where
  /-- `RESET_PC`, the caller's. -/
  resetPc : Word
  /-- `INIT_STATE`; when absent the defaults of R35 apply. -/
  initState : Option InitState
  /-- `IMAGE`. -/
  image : List Segment
  /-- `INIT_FILL`. -/
  initFill : Byte
  /-- The parameters that a step reads. -/
  cfg : Config
  deriving DecidableEq, Repr

/-- Why a construction fails. -/
inductive ConstructionError where
  /-- AddressResolutionError (R322): a segment that would run past 0xFFFF. It records the segment (R324). No step
  raises it. -/
  | addressResolution (segment : Segment)
  deriving DecidableEq, Repr

/-- What construction answers. -/
inductive Constructed where
  | built (s : State)
  | failed (e : ConstructionError)
  deriving DecidableEq, Repr

/-- The defaults of the processor state (R35). -/
def InitState.default (resetPc : Word) : InitState where
  a := 0x00
  x := 0x00
  y := 0x00
  sp := 0xFF
  pc := resetPc
  flags := Flags.cleared

/-- A segment stays below 65,536 (R322). -/
def Segment.fits (seg : Segment) : Bool := decide (seg.offset.toNat + seg.bytes.length ≤ 65536)

/-- Every byte of memory set to `fill` (R63, R350). -/
def Memory.filled (fill : Byte) : Memory :=
  if fill = Memory.unlisted then [] else (List.range 65536).map (fun k => (k, fill))

/-- The segments written in list order, so a later one wins (R63). -/
def Memory.loadImage (m : Memory) : List Segment → Memory
  | [] => m
  | seg :: image => Memory.loadImage (m.writeBytes seg.offset seg.bytes) image

/-- The state with the given processor state. -/
def State.withProcessor (s : State) (p : InitState) : State :=
  { s with a := p.a, x := p.x, y := p.y, sp := p.sp, pc := p.pc, flags := p.flags }

/-- Construction (R350): memory filled, the segments checked, the segments written, the processor state set. -/
def construct (p : Params) : Constructed :=
  match p.image.find? (fun seg => !seg.fits) with
  | some seg => .failed (.addressResolution seg)
  | none =>
    .built ({ State.reset with
      mem := (Memory.filled p.initFill).loadImage p.image
      cfg := p.cfg }.withProcessor (p.initState.getD (InitState.default p.resetPc)))

/-- The host's explicit `Reset(RESET_PC)` (R352): the processor state takes its defaults, memory is not changed. -/
def State.resetTo (s : State) (resetPc : Word) : State := s.withProcessor (InitState.default resetPc)

/-- The host's bus swap (R352): memory is replaced by a new fill and image "per rule R350", or the image is
rejected. -/
def State.swapBus (s : State) (fill : Byte) (image : List Segment) : Constructed :=
  match image.find? (fun seg => !seg.fits) with
  | some seg => .failed (.addressResolution seg)
  | none => .built (s.setMem ((Memory.filled fill).loadImage image))

end Sys2Proof.Machine
end

