-- ==== Sys2Proof/Machine/Driver.lean ====
section
/-!
DEFINITION. The step/run driver (70_reset_and_hazards.md R356, R358): what `step()` reports, and the run loop.
-/

namespace Sys2Proof.Machine

/-- What a successful `step()` returns to the caller (R356): mnemonic, mode and the descriptor's length. -/
structure StepReport where
  mnemonic : Mnemonic
  mode : Mode
  length : Nat
  deriving DecidableEq, Repr

/-- The report of the step from `s`, or nothing where it raises DecodeError. -/
def stepReport (s : State) : Option StepReport :=
  match decode s.cfg (fetchInstruction s) with
  | .instr i _ => some { mnemonic := i.mnemonic, mode := i.mode, length := i.length }
  | .rejected _ => none

/-- How a run ends (R358), with the number of completed steps and the state it ends in. A refusal cannot happen: no arm
of `exec` refuses. -/
inductive RunEnd where
  | stopped (n : Nat) (s : State)
  | failed (n : Nat) (e : Fault) (s : State)
  | exhausted (n : Nat) (s : State)
  | refused (n : Nat) (r : Refusal) (s : State)
  deriving DecidableEq, Repr

/-- The loop of R358 with `fuel` steps left of the budget and `n` done. The predicate is tested before each step. -/
def runFrom (stop : State → Bool) : Nat → Nat → State → RunEnd
  | 0, n, s => .exhausted n s
  | fuel + 1, n, s =>
    if stop s then .stopped n s
    else
      match step s with
      | .next t => runFrom stop fuel (n + 1) t
      | .fault e => .failed n e s
      | .refused r => .refused n r s

/-- `run(maxSteps, stop)` (R358). -/
def run (maxSteps : Nat) (stop : State → Bool) (s : State) : RunEnd := runFrom stop maxSteps 0 s

end Sys2Proof.Machine
end

