-- ==== Sys2Proof/Safety.lean ====
section
/-!
DEFINITION. What counts as a well-formed state and a safe run, in the terms the statements use. The core has one way
to go wrong, DecodeError (60_exceptions.md R325, R327).
-/

namespace Sys2Proof.Machine

/-- The invariant of the model's state: memory is in its canonical form, so that it holds one byte for each of the
65,536 addresses (R50) in exactly one way. Every other field admits all its values (R351). -/
def State.Inv (s : State) : Prop := s.mem.wf = true

/-- The byte at PC has a descriptor (R84): the next step does not raise DecodeError. -/
def State.opcodeDefined (s : State) : Bool := (dispatchTable s.cfg (s.read s.pc)).isSome

/-- A run of `n` steps from `s` completes, in `t`. -/
def RunsTo (n : Nat) (s t : State) : Prop := Host.Core.run Sys2Proof.core n s = .next t

end Sys2Proof.Machine
end

