-- ==== Sys2Proof/Certificates/Slice0/Obligations.lean ====
section
/-!
DEFINITION. The statements for the provers. Results are written out from the rules of spec/, in integer arithmetic or
bit by bit, not through the meanings' own operations. The helpers come first.
-/

open Sys2Proof Sys2Proof.Machine

namespace Sys2Proof.Claims

/-- `SetZN(v)` (R32). -/
def zn (f : Flags) (v : Byte) : Flags := { f with z := decide (v = 0), n := v.msb }

/-- PC past `n` bytes, mod 65,536 (R88). -/
def past (s : State) (n : Nat) : Word := BitVec.ofNat 16 (s.pc.toNat + n)

/-- The stack location `{0x01, SP}` = 0x0100 + SP (R24). -/
def stackAt (sp : Byte) : Word := BitVec.ofNat 16 (0x0100 + sp.toNat)

/-- The byte at a mode's effective address. The mode is never Relative here, so PC's advance does not matter. -/
def at_ (s : State) (m : AddressMode) : Byte := s.mem.read (m.address s)

/-- `{hi, lo}` (R10). -/
def join (hi lo : Byte) : Word := BitVec.ofNat 16 (hi.toNat * 256 + lo.toNat)

/-- The value of a bit. -/
def bit (b : Bool) : Nat := if b then 1 else 0

/-- `P` as a number (R27): `N<<7 | V<<6 | 1<<5 | B<<4 | D<<3 | I<<2 | Z<<1 | C`. -/
def pValue (f : Flags) : Nat :=
  128 * bit f.n + 64 * bit f.v + 32 + 16 * bit f.b + 8 * bit f.d + 4 * bit f.i + 2 * bit f.z + bit f.c

/-- The pushed byte `P | 0x30` as a number: `P` with bit 4 set whatever B holds (R283). -/
def pushedValue (f : Flags) : Nat := pValue { f with b := true }

/-- The flags loaded from a pulled byte, read as a number (R284, R265). -/
def loadedFlags (f : Flags) (loadsB : Bool) (p : Nat) : Flags where
  n := decide (p / 128 % 2 = 1)
  v := decide (p / 64 % 2 = 1)
  b := if loadsB then decide (p / 16 % 2 = 1) else f.b
  d := decide (p / 8 % 2 = 1)
  i := decide (p / 4 % 2 = 1)
  z := decide (p / 2 % 2 = 1)
  c := decide (p % 2 = 1)

/-- What holds for the eight operand forms of an accumulator instruction: `P` of the form, the state, the length and
the operand `m`. -/
def overEightForms (P : Instr → State → Nat → Byte → Prop) (imm zp zpx : Byte → Instr) (abs absx absy : Word → Instr)
    (indx indy : Byte → Instr) : Prop :=
  ∀ (s : State) (b : Byte) (w : Word),
    P (imm b) s 2 b ∧ P (zp b) s 2 (at_ s (.zeroPage b)) ∧ P (zpx b) s 2 (at_ s (.zeroPageX b)) ∧
    P (abs w) s 3 (at_ s (.absolute w)) ∧ P (absx w) s 3 (at_ s (.absoluteX w)) ∧
    P (absy w) s 3 (at_ s (.absoluteY w)) ∧ P (indx b) s 2 (at_ s (.indirectX b)) ∧
    P (indy b) s 2 (at_ s (.indirectY b))

/-- What holds for the four memory forms of a read-modify-write instruction: `P` of the form, the state, the length
and the effective address. -/
def overFourForms (P : Instr → State → Nat → Word → Prop) (zp zpx : Byte → Instr) (abs absx : Word → Instr) : Prop :=
  ∀ (s : State) (b : Byte) (w : Word),
    P (zp b) s 2 ((AddressMode.zeroPage b).address s) ∧ P (zpx b) s 2 ((AddressMode.zeroPageX b).address s) ∧
    P (abs w) s 3 ((AddressMode.absolute w).address s) ∧ P (absx w) s 3 ((AddressMode.absoluteX w).address s)

/-- The instruction answers the state with A loaded, Z and N set from the value, PC past `n` bytes, all else kept. -/
def LoadsA (i : Instr) (s : State) (n : Nat) (v : Byte) : Prop :=
  exec i s = .next { s with a := v, pc := past s n, flags := zn s.flags v }

def LoadsX (i : Instr) (s : State) (n : Nat) (v : Byte) : Prop :=
  exec i s = .next { s with x := v, pc := past s n, flags := zn s.flags v }

def LoadsY (i : Instr) (s : State) (n : Nat) (v : Byte) : Prop :=
  exec i s = .next { s with y := v, pc := past s n, flags := zn s.flags v }

/-- The instruction answers a state in which the byte at `ea` is `v`, every other byte reads as before, PC is past `n`
bytes, the flags are `f`, and every other field is kept. -/
def StoresByte (i : Instr) (s : State) (n : Nat) (ea : Word) (v : Byte) (f : Flags) : Prop :=
  ∃ t, exec i s = .next t ∧ t = { s with pc := past s n, flags := f, mem := t.mem } ∧
    ∀ addr, t.mem.read addr = if addr = ea then v else s.mem.read addr

/-- The arithmetic forms answer a state that differs only in A, PC and the flags C, V, Z, N, with Z and N from the
result (R32, R150). -/
def Accumulates (i : Instr) (s : State) (n : Nat) (r : Byte) (c v : Bool) : Prop :=
  exec i s = .next { s with a := r, pc := past s n, flags := zn { s.flags with c := c, v := v } r }

/-- Signed overflow of binary addition, "outside −128..127" (R152). -/
def addOverflows (a m : Byte) (c : Bool) : Bool :=
  decide (a.toInt + m.toInt + bit c < -128 ∨ 127 < a.toInt + m.toInt + bit c)

/-- Signed overflow of binary subtraction (R152). -/
def subOverflows (a m : Byte) (c : Bool) : Bool :=
  decide (a.toInt - m.toInt - (1 - bit c) < -128 ∨ 127 < a.toInt - m.toInt - (1 - bit c))

/-- ADC with D = 0 (R151, R152). -/
def AddsBinary (i : Instr) (s : State) (n : Nat) (m : Byte) : Prop :=
  s.flags.d = false → ∃ r, r.toNat = (s.a.toNat + m.toNat + bit s.flags.c) % 256 ∧
    ((~~~(s.a ^^^ m) &&& (s.a ^^^ r)).msb = addOverflows s.a m s.flags.c) ∧
    Accumulates i s n r (decide (s.a.toNat + m.toNat + bit s.flags.c > 255)) (addOverflows s.a m s.flags.c)

/-- SBC with D = 0 (R151, R152): r = (a − m − (1 − c)) mod 256, C = 1 exactly when that difference is not negative. -/
def SubtractsBinary (i : Instr) (s : State) (n : Nat) (m : Byte) : Prop :=
  s.flags.d = false → ∃ r, (r.toNat : Int) = ((s.a.toNat : Int) - m.toNat - (1 - bit s.flags.c)) % 256 ∧
    (((s.a ^^^ m) &&& (s.a ^^^ r)).msb = subOverflows s.a m s.flags.c) ∧
    Accumulates i s n r (decide ((s.a.toNat : Int) - m.toNat - (1 - bit s.flags.c) ≥ 0))
      (subOverflows s.a m s.flags.c)

/-- Both nibbles are decimal digits (R18). -/
def PackedBcd (v : Byte) : Prop := v.toNat / 16 ≤ 9 ∧ v.toNat % 16 ≤ 9

/-- The decimal number a packed BCD byte stands for (R17). -/
def decimalValue (v : Byte) : Nat := v.toNat / 16 * 10 + v.toNat % 16

/-- A decimal ADC or SBC takes the digit algorithm's result: the policy is `Algorithm`, or both operands are packed
BCD (R157). -/
def UsesAlgorithm (s : State) (m : Byte) : Prop :=
  s.flags.d = true ∧ (s.cfg.nonBcdPolicy = .algorithm ∨ (PackedBcd s.a ∧ PackedBcd m))

/-- A decimal ADC or SBC takes a draw (R157). -/
def TakesDraw (s : State) (m : Byte) : Prop :=
  s.flags.d = true ∧ s.cfg.nonBcdPolicy = .draw ∧ ¬(PackedBcd s.a ∧ PackedBcd m)

/-- The pair (r, Cout) of AddDec, as R153 writes it. -/
def digitSum (a m : Nat) (c : Bool) : Nat × Bool :=
  let lo0 := a % 16 + m % 16 + bit c
  let lo := if lo0 > 9 then lo0 + 6 else lo0
  let hi0 := a / 16 + m / 16 + (if lo > 15 then 1 else 0)
  let hi := if hi0 > 9 then hi0 + 6 else hi0
  (hi % 16 * 16 + lo % 16, decide (hi > 15))

/-- The pair (r, Cout) of SubDec, as R154 writes it, in integers. -/
def digitDifference (a m : Int) (c : Bool) : Int × Bool :=
  let lo0 := a % 16 - m % 16 - (1 - bit c)
  let hi0 := a / 16 - m / 16
  let lo := if lo0 < 0 then lo0 - 6 else lo0
  let hi1 := if lo0 < 0 then hi0 - 1 else hi0
  let hi := if hi1 < 0 then hi1 - 6 else hi1
  (hi % 16 * 16 + lo % 16, decide (a - m - (1 - bit c) ≥ 0))

/-- Decimal ADC (R153): the digit algorithm, which on packed BCD operands gives the sum mod 100 in packed BCD, with the
carry set iff the true sum is 100 or more. V as in R155. -/
def AddsDecimal (i : Instr) (s : State) (n : Nat) (m : Byte) : Prop :=
  UsesAlgorithm s m → ∃ r, r.toNat = (digitSum s.a.toNat m.toNat s.flags.c).1 ∧
    Accumulates i s n r (digitSum s.a.toNat m.toNat s.flags.c).2 (addOverflows s.a m s.flags.c) ∧
    (PackedBcd s.a → PackedBcd m →
      PackedBcd r ∧ decimalValue r = (decimalValue s.a + decimalValue m + bit s.flags.c) % 100 ∧
      ((digitSum s.a.toNat m.toNat s.flags.c).2 = true ↔
        decimalValue s.a + decimalValue m + bit s.flags.c ≥ 100))

/-- Decimal SBC (R154): the digit algorithm, which on packed BCD operands gives the difference mod 100 in packed BCD,
with C = 1 exactly when there is no borrow. -/
def SubtractsDecimal (i : Instr) (s : State) (n : Nat) (m : Byte) : Prop :=
  UsesAlgorithm s m → ∃ r, (r.toNat : Int) = (digitDifference s.a.toNat m.toNat s.flags.c).1 ∧
    Accumulates i s n r (digitDifference s.a.toNat m.toNat s.flags.c).2 (subOverflows s.a m s.flags.c) ∧
    (PackedBcd s.a → PackedBcd m →
      PackedBcd r ∧
      (decimalValue r : Int) = ((decimalValue s.a : Int) - decimalValue m - (1 - bit s.flags.c)) % 100 ∧
      ((digitDifference s.a.toNat m.toNat s.flags.c).2 = true ↔
        (decimalValue s.a : Int) - decimalValue m - (1 - bit s.flags.c) ≥ 0))

/-- A decimal operation under `Draw` on an operand that is not packed BCD: result and carry are the free values of this
draw, V is the binary one, Z and N follow the drawn byte (R157). -/
def Draws (overflows : Byte → Byte → Bool → Bool) (i : Instr) (s : State) (n : Nat) (m : Byte) : Prop :=
  TakesDraw s m →
    exec i s = .next { s with
      a := Config.freeByte s.draws
      pc := past s n
      flags := zn { s.flags with c := Config.freeBit s.draws, v := overflows s.a m s.flags.c }
        (Config.freeByte s.draws)
      draws := s.draws + 1 }

/-- In decimal mode, whatever the policy and the operands: V is the binary operation's (R155), Z and N come from the
result that A receives (R156). -/
def DecimalFlags (overflows : Byte → Byte → Bool → Bool) (i : Instr) (s : State) (n : Nat) (m : Byte) : Prop :=
  s.flags.d = true → ∃ t, exec i s = .next t ∧ t.flags.v = overflows s.a m s.flags.c ∧
    t.flags.z = decide (t.a = 0) ∧ t.flags.n = t.a.msb ∧ t.pc = past s n

/-- A shift (R195): the target's value `v` becomes `res` of the old C and `v`, C becomes `out v`, Z and N follow the
result, all else is kept. The accumulator form and the four memory forms. -/
def Shifts (res : Nat → Nat → Nat) (out : Nat → Bool) (acc : Instr) (zp zpx : Byte → Instr) (abs absx : Word → Instr) :
    Prop :=
  (∀ s : State, ∃ r : Byte, r.toNat = res (bit s.flags.c) s.a.toNat ∧
    exec acc s = .next { s with
      a := r, pc := past s 1, flags := zn { s.flags with c := out s.a.toNat } r }) ∧
  overFourForms (fun i s n ea => ∃ r : Byte, r.toNat = res (bit s.flags.c) (s.mem.read ea).toNat ∧
    StoresByte i s n ea r (zn { s.flags with c := out (s.mem.read ea).toNat } r)) zp zpx abs absx

/-- A compare of the register value `r` (R225): C from the unsigned comparison, Z from equality, N from bit 7 of the
difference; PC advances and all else is kept. -/
def Compares (r : State → Byte) (i : Instr) (s : State) (n : Nat) (m : Byte) : Prop :=
  exec i s = .next { s with
    pc := past s n
    flags := { s.flags with
      c := decide ((r s).toNat ≥ m.toNat)
      z := decide (r s = m)
      n := decide (((r s).toNat + 256 - m.toNat) % 256 ≥ 128) } }

/-- BIT (R214). -/
def TestsBits (i : Instr) (s : State) (n : Nat) (m : Byte) : Prop :=
  exec i s = .next { s with
    pc := past s n
    flags := { s.flags with
      z := decide (s.a &&& m = 0)
      n := decide (m.toNat / 128 % 2 = 1)
      v := decide (m.toNat / 64 % 2 = 1) } }

/-- A branch (R240): PC becomes the target if the condition holds and PC_next if not; nothing else changes. -/
def Branches (i : Byte → Instr) (cond : Flags → Bool) : Prop :=
  ∀ (s : State) (disp8 : Byte),
    exec (i disp8) s = .next { s with
      pc := if cond s.flags then BitVec.ofInt 16 (s.pc.toNat + 2 + disp8.toInt) else past s 2 }

/-- An instruction that writes the flags only, one byte long. -/
def SetsFlags (i : Instr) (f : Flags → Flags) : Prop :=
  ∀ s : State, exec i s = .next { s with pc := past s 1, flags := f s.flags }

/-- Every flag 0 (R35). -/
def allClear : Flags := { c := false, z := false, i := false, d := false, b := false, v := false, n := false }

/-- Every byte of memory reads the same in the two states. -/
def SameMemory (s t : State) : Prop := ∀ addr, t.mem.read addr = s.mem.read addr

/-- The 105 undefined bytes (R85). -/
def undefinedBytes : List Byte :=
  [0x02, 0x03, 0x04, 0x07, 0x0B, 0x0C, 0x0F, 0x12, 0x13, 0x14, 0x17, 0x1A, 0x1B, 0x1C, 0x1F] ++
  [0x22, 0x23, 0x27, 0x2B, 0x2F, 0x32, 0x33, 0x34, 0x37, 0x3A, 0x3B, 0x3C, 0x3F] ++
  [0x42, 0x43, 0x44, 0x47, 0x4B, 0x4F, 0x52, 0x53, 0x54, 0x57, 0x5A, 0x5B, 0x5C, 0x5F] ++
  [0x62, 0x63, 0x64, 0x67, 0x6B, 0x6F, 0x72, 0x73, 0x74, 0x77, 0x7A, 0x7B, 0x7C, 0x7F] ++
  [0x80, 0x82, 0x83, 0x87, 0x89, 0x8B, 0x8F, 0x92, 0x93, 0x97, 0x9B, 0x9C, 0x9E, 0x9F] ++
  [0xA3, 0xA7, 0xAB, 0xAF, 0xB2, 0xB3, 0xB7, 0xBB, 0xBF] ++
  [0xC2, 0xC3, 0xC7, 0xCB, 0xCF, 0xD2, 0xD3, 0xD4, 0xD7, 0xDA, 0xDB, 0xDC, 0xDF] ++
  [0xE2, 0xE3, 0xE7, 0xEB, 0xEF, 0xF2, 0xF3, 0xF4, 0xF7, 0xFA, 0xFB, 0xFC, 0xFF]

/-- The bytes without a descriptor on a machine with these parameters: the 105, and 0x00 and 0x40 when
`BRK_RTI_MODELLED` is false (R85, R266). -/
def Undefined (cfg : Config) (op : Byte) : Prop :=
  op ∈ undefinedBytes ∨ (cfg.brkRtiModelled = false ∧ (op = 0x00 ∨ op = 0x40))

/-- The mnemonics that set PC explicitly: the branches, and JMP, JSR, RTS, BRK, RTI (R356). -/
def controlFlow : List Mnemonic := [.BCC, .BCS, .BEQ, .BNE, .BMI, .BPL, .BVC, .BVS, .JMP, .JSR, .RTS, .BRK, .RTI]

/-- The mnemonics whose forms write Z and N from a result, or load them (R33). -/
def writesZN : List Mnemonic :=
  [.LDA, .LDX, .LDY, .TAX, .TAY, .TXA, .TYA, .TSX, .PLA, .INC, .DEC, .INX, .INY, .DEX, .DEY, .AND, .ORA, .EOR, .ADC,
    .SBC, .ASL, .LSR, .ROL, .ROR, .CMP, .CPX, .CPY, .BIT, .PLP, .RTI]

/-- The state with another value of B. -/
def withB (b : Bool) (s : State) : State := { s with flags := { s.flags with b := b } }

/-- The state with another value of D. -/
def withD (d : Bool) (s : State) : State := { s with flags := { s.flags with d := d } }

/-- The state with another value of I. -/
def withI (i : Bool) (s : State) : State := { s with flags := { s.flags with i := i } }

/-- An outcome with its next state, if any, changed. -/
def mapNext (f : State → State) : Host.Outcome State Fault Refusal → Host.Outcome State Fault Refusal
  | .next s => .next (f s)
  | .fault e => .fault e
  | .refused r => .refused r

/-- The byte an image and a fill put at an address (R63): the segments in list order, a later one winning. -/
def imageByte (fill : Byte) (image : List Segment) (addr : Nat) : Byte :=
  image.foldl (fun old seg =>
    if seg.offset.toNat ≤ addr ∧ addr < seg.offset.toNat + seg.bytes.length then
      seg.bytes.getD (addr - seg.offset.toNat) 0
    else old) fill

end Sys2Proof.Claims

open Sys2Proof.Claims

/-! ### Encoding and decoding -/

/-- For every instruction the machine has, decoding its encoding gives it back, with every operand at every value and
whatever bytes follow. It says that no bit of an encoding is dropped (R81 to R84, R105). The opcode bytes are the
spec's own decision D22 (notes/assumptions/8.md). -/
def Obligations.DecodeOfEncodeIsTheInstruction : Prop :=
  ∀ (cfg : Config) (i : Instr) (rest : List Byte), i.wellFormed cfg = true →
    decode cfg (encode i ++ rest) = .instr i rest

/-- The other direction: bytes that decode to an instruction are its encoding and the rest, and the instruction is one
the machine has. So each instruction has one encoding (R83, R105; decision D22, notes/assumptions/8.md). -/
def Obligations.EncodeOfDecodeIsTheBytes : Prop :=
  ∀ (cfg : Config) (bytes rest : List Byte) (i : Instr), decode cfg bytes = .instr i rest →
    bytes = encode i ++ rest ∧ i.wellFormed cfg = true ∧ (encode i).length = 1 + i.mode.operandLength

/-- Words written out from the opcode map (R105; decision D22, notes/assumptions/8.md), one or two of each family, decode
to their instructions. A sanity statement. -/
def Obligations.WordsOfTheOpcodeMapDecode : Prop :=
  decode Config.standard [0xA9, 0x05] = .instr (.ldaImmediate 0x05) [] ∧
  decode Config.standard [0x91, 0xFF] = .instr (.staIndirectY 0xFF) [] ∧
  decode Config.standard [0x7D, 0x34, 0x12] = .instr (.adcAbsoluteX 0x1234) [] ∧
  decode Config.standard [0xD6, 0x10] = .instr (.decZeroPageX 0x10) [] ∧
  decode Config.standard [0x6A] = .instr .rorAccumulator [] ∧
  decode Config.standard [0x2C, 0x00, 0x30] = .instr (.bitAbsolute 0x3000) [] ∧
  decode Config.standard [0xE0, 0x05] = .instr (.cpxImmediate 0x05) [] ∧
  decode Config.standard [0xD0, 0xFA] = .instr (.bne 0xFA) [] ∧
  decode Config.standard [0x6C, 0xFF, 0x30] = .instr (.jmpIndirect 0x30FF) [] ∧
  decode Config.standard [0x28] = .instr .plp [] ∧
  decode Config.standard [0xBA] = .instr .tsx []

/-! ### The step -/

/-- When the three bytes at PC decode to an instruction, the step is exec of that instruction at the same state: the
fetch adds nothing, since each meaning moves PC past its own bytes (R84, R356). -/
def Obligations.StepExecutesTheDecodedInstruction : Prop :=
  ∀ (s : State) (i : Instr) (rest : List Byte),
    decode s.cfg [s.mem.read s.pc, s.mem.read (past s 1), s.mem.read (past s 2)] = .instr i rest → step s = exec i s

/-- A step raises DecodeError, recording PC and the opcode byte, exactly when the byte at PC is one of the 105
undefined bytes, or 0x00 or 0x40 without `BRK_RTI_MODELLED` (R85, R266, R320). The list of bytes, the parameter and
what DecodeError records are the spec's decisions D22, D8 and D14 (notes/assumptions/8.md, 12.md, 17.md). -/
def Obligations.DecodeErrorExactlyOnUndefinedBytes : Prop :=
  ∀ s : State,
    (Undefined s.cfg (s.mem.read s.pc) → step s = .fault (.decodeError s.pc (s.mem.read s.pc))) ∧
    (¬Undefined s.cfg (s.mem.read s.pc) → ∃ t, step s = .next t)

/-- No step has any other outcome than a next state or DecodeError, and no instruction raises anything after decode
(R325, R327). What DecodeError records is the spec's decision D14 (R320; notes/assumptions/17.md). The second clause
covers BRK and RTI also where `BRK_RTI_MODELLED` is false: that exec keeps their effect there is the model's choice
(DESIGN CHOICE: notes/assumptions/6.md); no step reaches it. -/
def Obligations.EveryStepIsNextOrDecodeError : Prop :=
  (∀ s : State, (∃ t, step s = .next t) ∨ step s = .fault (.decodeError s.pc (s.mem.read s.pc))) ∧
  (∀ (i : Instr) (s : State), ∃ t, exec i s = .next t)

/-- Every instruction that does not set PC explicitly leaves PC past its own bytes (R356; E2). -/
def Obligations.PcAdvancesByTheLength : Prop :=
  ∀ (i : Instr) (s t : State), exec i s = .next t → i.mnemonic ∉ controlFlow →
    t.pc = BitVec.ofNat 16 (s.pc.toNat + 1 + i.mode.operandLength)

/-- The driver loop: an empty budget is exhausted, the predicate is tested before each step, a DecodeError ends the run
in the unchanged state, and a step that succeeds is counted (R358, R320; the spec's decision D18,
notes/assumptions/18.md). -/
def Obligations.RunFollowsTheDriverLoop : Prop :=
  ∀ (stop : State → Bool) (fuel n : Nat) (s t : State) (e : Fault),
    runFrom stop 0 n s = .exhausted n s ∧
    (stop s = true → runFrom stop (fuel + 1) n s = .stopped n s) ∧
    (stop s = false → step s = .fault e → runFrom stop (fuel + 1) n s = .failed n e s) ∧
    (stop s = false → step s = .next t → runFrom stop (fuel + 1) n s = runFrom stop fuel (n + 1) t)

/-- A run ends in one of three ways, never in a refusal, and never after more steps than its budget. In each, the state
it ends in is the one that many steps lead to; it stops where the predicate holds, and fails where the byte at PC has no
descriptor, in the state as it was before that step (R358, R320; decision D18, notes/assumptions/18.md). -/
def Obligations.RunEndsInOneOfThreeWays : Prop :=
  ∀ (stop : State → Bool) (budget : Nat) (s : State),
    (∃ n t, run budget stop s = .stopped n t ∧ RunsTo n s t ∧ n < budget ∧ stop t = true) ∨
    (∃ n t, run budget stop s = .failed n (.decodeError t.pc (t.mem.read t.pc)) t ∧ RunsTo n s t ∧ n < budget ∧
      stop t = false ∧ Undefined t.cfg (t.mem.read t.pc)) ∨
    (∃ t, run budget stop s = .exhausted budget t ∧ RunsTo budget s t)

/-! ### Invariants and whole-machine rules -/

/-- The state after reset meets the invariant. -/
def Obligations.ResetMeetsTheInvariant : Prop := State.reset.Inv

/-- Every step keeps memory in canonical form (the model's invariant), from every state that has it. -/
def Obligations.StepKeepsTheInvariant : Prop :=
  ∀ s t : State, s.Inv → step s = .next t → t.Inv

/-- Over any number of steps from any state: the parameters stay as they are (R9), and B keeps its value unless
`PLP_LOADS_B` holds (R29). That the parameters stand in the state is the model's choice (notes/assumptions/1.md), and
what writes B is the spec's decision D5 (notes/assumptions/10.md). -/
def Obligations.RunsKeepParametersAndBreakFlag : Prop :=
  ∀ (n : Nat) (s t : State), RunsTo n s t →
    t.cfg = s.cfg ∧ (s.cfg.plpLoadsB = false → t.flags.b = s.flags.b)

/-- No step reads B: two states that differ only in B step to states that differ at most in B, or both raise the same
DecodeError (R29). That PHP and BRK push bit 4 as 1 whatever B holds is the spec's decision D4
(notes/assumptions/9.md). -/
def Obligations.NoStepReadsTheBreakFlag : Prop :=
  ∀ (b : Bool) (s : State), mapNext (withB false) (step (withB b s)) = mapNext (withB false) (step s)

/-- I gates nothing: only PHP and BRK, which push it, make a difference of I show anywhere but in I; every other
instruction commutes with changing I up to I itself (R30; the spec's decision D15, notes/assumptions/19.md). Where
`BRK_RTI_MODELLED` is false, exec still gives BRK and RTI their effect: the model's choice (DESIGN CHOICE:
notes/assumptions/6.md). -/
def Obligations.InterruptFlagGatesNothing : Prop :=
  ∀ (i : Instr) (b : Bool) (s : State), i.mnemonic ≠ .PHP → i.mnemonic ≠ .BRK →
    mapNext (withI false) (exec i (withI b s)) = mapNext (withI false) (exec i s)

/-- Only ADC and SBC compute from D; PHP and BRK push it. Every other instruction commutes with changing D up to D
itself (R31; the spec's decision D20, notes/assumptions/15.md). Where `BRK_RTI_MODELLED` is false, exec still gives
BRK and RTI their effect: the model's choice (DESIGN CHOICE: notes/assumptions/6.md). -/
def Obligations.DecimalFlagSelectsOnlyArithmetic : Prop :=
  ∀ (i : Instr) (b : Bool) (s : State), i.mnemonic ∉ [Mnemonic.ADC, .SBC, .PHP, .BRK] →
    mapNext (withD false) (exec i (withD b s)) = mapNext (withD false) (exec i s)

/-- Each flag is written only by the instructions that the flag matrix names for it (R33, R34; for B the spec's
decision D5, notes/assumptions/10.md). Where `BRK_RTI_MODELLED` is false, exec still gives BRK and RTI their effect:
the model's choice (DESIGN CHOICE: notes/assumptions/6.md). -/
def Obligations.FlagsKeptByAllOtherInstructions : Prop :=
  ∀ (i : Instr) (s t : State), exec i s = .next t →
    (i.mnemonic ∉ writesZN → t.flags.z = s.flags.z ∧ t.flags.n = s.flags.n) ∧
    (i.mnemonic ∉ [Mnemonic.ADC, .SBC, .ASL, .LSR, .ROL, .ROR, .CMP, .CPX, .CPY, .CLC, .SEC, .PLP, .RTI] →
      t.flags.c = s.flags.c) ∧
    (i.mnemonic ∉ [Mnemonic.ADC, .SBC, .BIT, .CLV, .PLP, .RTI] → t.flags.v = s.flags.v) ∧
    (i.mnemonic ∉ [Mnemonic.CLI, .SEI, .BRK, .PLP, .RTI] → t.flags.i = s.flags.i) ∧
    (i.mnemonic ∉ [Mnemonic.CLD, .SED, .PLP, .RTI] → t.flags.d = s.flags.d) ∧
    (i.mnemonic ∉ [Mnemonic.PLP, .RTI] ∨ s.cfg.plpLoadsB = false → t.flags.b = s.flags.b)

/-- Each register is written only by the instructions that its rule names (R21 to R24). The shifts write A in their
Accumulator form only. Where `BRK_RTI_MODELLED` is false, exec still gives BRK and RTI their effect: the model's
choice (DESIGN CHOICE: notes/assumptions/6.md). -/
def Obligations.RegistersKeptByAllOtherInstructions : Prop :=
  ∀ (i : Instr) (s t : State), exec i s = .next t →
    (i.mnemonic ∉ [Mnemonic.LDA, .PLA, .TXA, .TYA, .ADC, .SBC, .AND, .ORA, .EOR] → i.mode ≠ .accumulator →
      t.a = s.a) ∧
    (i.mnemonic ∉ [Mnemonic.LDX, .TAX, .TSX, .INX, .DEX] → t.x = s.x) ∧
    (i.mnemonic ∉ [Mnemonic.LDY, .TAY, .INY, .DEY] → t.y = s.y) ∧
    (i.mnemonic ∉ [Mnemonic.TXS, .PHA, .PHP, .PLA, .PLP, .JSR, .RTS, .BRK, .RTI] → t.sp = s.sp)

/-- Memory is written only by the stores, the read-modify-write forms on memory, and the pushes: every other
instruction leaves every byte as it was (R51, R134 to R136, R181, R182, R195, R57). Where `BRK_RTI_MODELLED` is false,
exec still gives BRK and RTI their effect: the model's choice (DESIGN CHOICE: notes/assumptions/6.md). -/
def Obligations.MemoryKeptByInstructionsThatStoreNothing : Prop :=
  ∀ (i : Instr) (s t : State), exec i s = .next t →
    (i.mnemonic ∉ [Mnemonic.STA, .STX, .STY, .INC, .DEC, .ASL, .LSR, .ROL, .ROR, .PHA, .PHP, .JSR, .BRK] ∨
      i.mode = .accumulator) →
    SameMemory s t

/-- The stack never leaves page 0x01: an instruction that pushes changes no byte outside 0x0100 to 0x01FF (R59). Where
`BRK_RTI_MODELLED` is false, exec still gives BRK and RTI their effect: the model's choice (DESIGN CHOICE:
notes/assumptions/6.md). -/
def Obligations.PushesStayInTheStackPage : Prop :=
  ∀ (i : Instr) (s t : State), exec i s = .next t → i.mnemonic ∈ [Mnemonic.PHA, .PHP, .JSR, .BRK] →
    ∀ addr : Word, (addr.toNat < 0x0100 ∨ 0x01FF < addr.toNat) → t.mem.read addr = s.mem.read addr

/-! ### Construction and reset -/

/-- Construction without `INIT_STATE`, and the host's reset, give the defaults: A = X = Y = 0, SP = 0xFF, PC the
caller's `RESET_PC`, every flag 0, P = 0x20; a supplied processor state is taken field by field, whatever its values,
and bit 5 of the byte view still reads 1 (R35, R351; the place of that bit is the spec's decision D3,
notes/assumptions/9.md). -/
def Obligations.ConstructionSetsTheProcessorState : Prop :=
  (∀ (p : Params) (s : State), construct p = .built s →
    (p.initState = none → s.a = 0 ∧ s.x = 0 ∧ s.y = 0 ∧ s.sp = 0xFF ∧ s.pc = p.resetPc ∧ s.flags = allClear ∧
      s.flags.byteView = 0x20) ∧
    (∀ q : InitState, p.initState = some q →
      s.a = q.a ∧ s.x = q.x ∧ s.y = q.y ∧ s.sp = q.sp ∧ s.pc = q.pc ∧ s.flags = q.flags ∧
      s.flags.byteView.getLsbD 5 = true)) ∧
  (∀ (s : State) (resetPc : Word),
    (s.resetTo resetPc).a = 0 ∧ (s.resetTo resetPc).x = 0 ∧ (s.resetTo resetPc).y = 0 ∧
    (s.resetTo resetPc).sp = 0xFF ∧ (s.resetTo resetPc).pc = resetPc ∧ (s.resetTo resetPc).flags = allClear ∧
    (s.resetTo resetPc).flags.byteView = 0x20)

/-- Construction fails, with AddressResolutionError, exactly when a segment would run past 0xFFFF; the error records
such a segment of the image (R322; what a malformed image is, the spec's decision D24, notes/assumptions/17.md). -/
def Obligations.ConstructionRejectsExactlyMalformedImages : Prop :=
  ∀ p : Params,
    ((∃ seg ∈ p.image, seg.offset.toNat + seg.bytes.length > 65536) →
      ∃ seg ∈ p.image, seg.offset.toNat + seg.bytes.length > 65536 ∧
        construct p = .failed (.addressResolution seg)) ∧
    ((∀ seg ∈ p.image, seg.offset.toNat + seg.bytes.length ≤ 65536) → ∃ s, construct p = .built s)

/-- What construction leaves in memory: `INIT_FILL` everywhere, then each segment in list order, a later one winning
(R63, R350; the spec's decisions D2 and D24, notes/assumptions/5.md, 17.md). The parameters are the given ones (R9):
that they stand in the state is the model's choice (DESIGN CHOICE: notes/assumptions/1.md). Memory is in canonical
form, which is the model's own invariant and no rule of the spec. -/
def Obligations.ConstructionLoadsTheImage : Prop :=
  ∀ (p : Params) (s : State), construct p = .built s →
    s.cfg = p.cfg ∧ s.Inv ∧
    ∀ addr : Word, s.mem.read addr = imageByte p.initFill p.image addr.toNat

/-- An explicit reset does not change memory and sets PC to the given value (R352; the spec's decision D17,
notes/assumptions/16.md). That it keeps the parameters, which stand in the state, is the model's choice (DESIGN
CHOICE: notes/assumptions/1.md, 16.md). -/
def Obligations.ResetKeepsMemory : Prop :=
  ∀ (s : State) (resetPc : Word), SameMemory s (s.resetTo resetPc) ∧ (s.resetTo resetPc).cfg = s.cfg ∧
    (s.resetTo resetPc).pc = resetPc

/-- The model's initial state is the one construction gives under the default parameters with no image, at the model's
own choice of `RESET_PC`, 0x0200 (DESIGN CHOICE: notes/assumptions/2.md), with the parameters in the state and the
draw counter where it starts (DESIGN CHOICE: notes/assumptions/1.md, 3.md); every byte of its memory reads as the
default of `INIT_FILL` (the spec's decision D2, notes/assumptions/5.md). -/
def Obligations.InitialStateIsADefaultConstruction : Prop :=
  construct { resetPc := 0x0200, initState := none, image := [], initFill := 0x00, cfg := Config.standard } =
      .built State.reset ∧
    ∀ addr, State.reset.mem.read addr = 0x00

/-! ### Operands, status byte, memory words -/

/-- The effective address of each mode, in integers (R92 to R101): zero-page indexing wraps mod 256, absolute indexing
and the relative target mod 65,536; the Indirect pointer's high byte comes from the same page; the IndirectX and
IndirectY pointers come from page 0. -/
def Obligations.ModesGiveTheirEffectiveAddresses : Prop :=
  ∀ (s : State) (b : Byte) (w : Word),
    ((AddressMode.zeroPage b).address s).toNat = b.toNat ∧
    ((AddressMode.zeroPageX b).address s).toNat = (b.toNat + s.x.toNat) % 256 ∧
    ((AddressMode.zeroPageY b).address s).toNat = (b.toNat + s.y.toNat) % 256 ∧
    (AddressMode.relative b).address s = BitVec.ofInt 16 (s.pc.toNat + b.toInt) ∧
    (AddressMode.absolute w).address s = w ∧
    ((AddressMode.absoluteX w).address s).toNat = (w.toNat + s.x.toNat) % 65536 ∧
    ((AddressMode.absoluteY w).address s).toNat = (w.toNat + s.y.toNat) % 65536 ∧
    (AddressMode.indirect w).address s =
      join (s.mem.read (BitVec.ofNat 16 (w.toNat / 256 * 256 + (w.toNat % 256 + 1) % 256))) (s.mem.read w) ∧
    (AddressMode.indirectX b).address s =
      join (s.mem.read (BitVec.ofNat 16 ((b.toNat + s.x.toNat + 1) % 256)))
        (s.mem.read (BitVec.ofNat 16 ((b.toNat + s.x.toNat) % 256))) ∧
    ((AddressMode.indirectY b).address s).toNat =
      ((s.mem.read (BitVec.ofNat 16 ((b.toNat + 1) % 256))).toNat * 256 +
        (s.mem.read (BitVec.ofNat 16 b.toNat)).toNat + s.y.toNat) % 65536

/-- The byte view of the status register as a number, whose bit 5 always reads 1 (R27, R28; the layout is the spec's
decision D3, notes/assumptions/9.md). -/
def Obligations.ByteViewHasTheDocumentedLayout : Prop :=
  ∀ f : Flags, f.byteView.toNat = pValue f ∧ f.byteView.getLsbD 5 = true

/-! ### Load and store -/

/-- LDA, all eight forms (R131). -/
def Obligations.LdaLoadsTheAccumulator : Prop :=
  overEightForms LoadsA .ldaImmediate .ldaZeroPage .ldaZeroPageX .ldaAbsolute .ldaAbsoluteX .ldaAbsoluteY
    .ldaIndirectX .ldaIndirectY

/-- LDX and LDY, all five forms of each (R132, R133). -/
def Obligations.LdxAndLdyLoadTheIndexRegisters : Prop :=
  ∀ (s : State) (b : Byte) (w : Word),
    LoadsX (.ldxImmediate b) s 2 b ∧ LoadsX (.ldxZeroPage b) s 2 (at_ s (.zeroPage b)) ∧
    LoadsX (.ldxZeroPageY b) s 2 (at_ s (.zeroPageY b)) ∧ LoadsX (.ldxAbsolute w) s 3 (at_ s (.absolute w)) ∧
    LoadsX (.ldxAbsoluteY w) s 3 (at_ s (.absoluteY w)) ∧
    LoadsY (.ldyImmediate b) s 2 b ∧ LoadsY (.ldyZeroPage b) s 2 (at_ s (.zeroPage b)) ∧
    LoadsY (.ldyZeroPageX b) s 2 (at_ s (.zeroPageX b)) ∧ LoadsY (.ldyAbsolute w) s 3 (at_ s (.absolute w)) ∧
    LoadsY (.ldyAbsoluteX w) s 3 (at_ s (.absoluteX w))

/-- STA, STX and STY, every form: the register's byte is stored at the effective address, no other byte changes, no
flag and no register but PC changes (R134 to R136). -/
def Obligations.StoresWriteOneByte : Prop :=
  ∀ (s : State) (b : Byte) (w : Word),
    StoresByte (.staZeroPage b) s 2 ((AddressMode.zeroPage b).address s) s.a s.flags ∧
    StoresByte (.staZeroPageX b) s 2 ((AddressMode.zeroPageX b).address s) s.a s.flags ∧
    StoresByte (.staAbsolute w) s 3 ((AddressMode.absolute w).address s) s.a s.flags ∧
    StoresByte (.staAbsoluteX w) s 3 ((AddressMode.absoluteX w).address s) s.a s.flags ∧
    StoresByte (.staAbsoluteY w) s 3 ((AddressMode.absoluteY w).address s) s.a s.flags ∧
    StoresByte (.staIndirectX b) s 2 ((AddressMode.indirectX b).address s) s.a s.flags ∧
    StoresByte (.staIndirectY b) s 2 ((AddressMode.indirectY b).address s) s.a s.flags ∧
    StoresByte (.stxZeroPage b) s 2 ((AddressMode.zeroPage b).address s) s.x s.flags ∧
    StoresByte (.stxZeroPageY b) s 2 ((AddressMode.zeroPageY b).address s) s.x s.flags ∧
    StoresByte (.stxAbsolute w) s 3 ((AddressMode.absolute w).address s) s.x s.flags ∧
    StoresByte (.styZeroPage b) s 2 ((AddressMode.zeroPage b).address s) s.y s.flags ∧
    StoresByte (.styZeroPageX b) s 2 ((AddressMode.zeroPageX b).address s) s.y s.flags ∧
    StoresByte (.styAbsolute w) s 3 ((AddressMode.absolute w).address s) s.y s.flags

/-! ### Arithmetic -/

/-- Binary ADC and SBC, all eight forms of each: result, carry and overflow in exact integer arithmetic, the overflow
also by the sign-bit masking (R151, R152). -/
def Obligations.BinaryArithmeticIsExact : Prop :=
  overEightForms AddsBinary .adcImmediate .adcZeroPage .adcZeroPageX .adcAbsolute .adcAbsoluteX .adcAbsoluteY
    .adcIndirectX .adcIndirectY ∧
  overEightForms SubtractsBinary .sbcImmediate .sbcZeroPage .sbcZeroPageX .sbcAbsolute .sbcAbsoluteX .sbcAbsoluteY
    .sbcIndirectX .sbcIndirectY

/-- Decimal ADC, all eight forms: the digit algorithm, and on packed BCD operands the decimal sum (R153, R155, R156). The
algorithm and V are the spec's decisions D13 and D11 (notes/assumptions/14.md). -/
def Obligations.DecimalAdditionIsCorrect : Prop :=
  overEightForms AddsDecimal .adcImmediate .adcZeroPage .adcZeroPageX .adcAbsolute .adcAbsoluteX .adcAbsoluteY
    .adcIndirectX .adcIndirectY

/-- Decimal SBC, all eight forms: the digit algorithm, and on packed BCD operands the decimal difference (R154, R155,
R156). The algorithm, its reading of the source's property and V are the spec's decisions D13 and D11
(notes/assumptions/14.md). -/
def Obligations.DecimalSubtractionIsCorrect : Prop :=
  overEightForms SubtractsDecimal .sbcImmediate .sbcZeroPage .sbcZeroPageX .sbcAbsolute .sbcAbsoluteX .sbcAbsoluteY
    .sbcIndirectX .sbcIndirectY

/-- In decimal mode V is the binary operation's and Z and N follow the adjusted result, under both policies (R155,
R156). V is the spec's decision D11 (notes/assumptions/14.md). -/
def Obligations.DecimalModeFlags : Prop :=
  overEightForms (DecimalFlags addOverflows) .adcImmediate .adcZeroPage .adcZeroPageX .adcAbsolute .adcAbsoluteX
    .adcAbsoluteY .adcIndirectX .adcIndirectY ∧
  overEightForms (DecimalFlags subOverflows) .sbcImmediate .sbcZeroPage .sbcZeroPageX .sbcAbsolute .sbcAbsoluteX
    .sbcAbsoluteY .sbcIndirectX .sbcIndirectY

/-- Under `Draw`, decimal ADC and SBC on an operand that is not packed BCD take result and carry as free values; the
statement holds for whatever they are (R157; the spec's decisions D12 and D11, notes/assumptions/14.md). That the
drawn values are the opaque `Config.freeByte` and `Config.freeBit` at the counter `draws`, and that the step adds 1 to
it, is the model's choice and no rule of the spec (DESIGN CHOICE: notes/assumptions/3.md). -/
def Obligations.DrawPolicyLeavesTheResultFree : Prop :=
  overEightForms (Draws addOverflows) .adcImmediate .adcZeroPage .adcZeroPageX .adcAbsolute .adcAbsoluteX
    .adcAbsoluteY .adcIndirectX .adcIndirectY ∧
  overEightForms (Draws subOverflows) .sbcImmediate .sbcZeroPage .sbcZeroPageX .sbcAbsolute .sbcAbsoluteX
    .sbcAbsoluteY .sbcIndirectX .sbcIndirectY

/-! ### Increment, decrement, shifts, logic, compare -/

/-- INC and DEC on memory: ±1 mod 256 at the effective address, Z and N from the new byte, all else kept (R181,
R182). -/
def Obligations.IncAndDecModifyOneByte : Prop :=
  overFourForms (fun i s n ea => ∃ v : Byte, v.toNat = ((s.mem.read ea).toNat + 1) % 256 ∧
      StoresByte i s n ea v (zn s.flags v)) .incZeroPage .incZeroPageX .incAbsolute .incAbsoluteX ∧
  overFourForms (fun i s n ea => ∃ v : Byte, v.toNat = ((s.mem.read ea).toNat + 255) % 256 ∧
      StoresByte i s n ea v (zn s.flags v)) .decZeroPage .decZeroPageX .decAbsolute .decAbsoluteX

/-- INX, INY, DEX and DEY: ±1 mod 256 on the register, Z and N from it, all else kept (R183 to R186). -/
def Obligations.IndexRegistersCountModulo256 : Prop :=
  ∀ s : State,
    LoadsX .inx s 1 (BitVec.ofNat 8 (s.x.toNat + 1)) ∧ LoadsY .iny s 1 (BitVec.ofNat 8 (s.y.toNat + 1)) ∧
    LoadsX .dex s 1 (BitVec.ofNat 8 (s.x.toNat + 255)) ∧ LoadsY .dey s 1 (BitVec.ofNat 8 (s.y.toNat + 255))

/-- ASL, LSR, ROL and ROR, all five forms of each: the bit movement in integers, C from the bit that leaves, Z and N
from the result, all else kept (R195 to R199; the bit movements are general knowledge, notes/assumptions/13.md). -/
def Obligations.ShiftsMoveOneBitThroughCarry : Prop :=
  Shifts (fun _ v => 2 * v % 256) (fun v => decide (v ≥ 128)) .aslAccumulator .aslZeroPage .aslZeroPageX .aslAbsolute
    .aslAbsoluteX ∧
  Shifts (fun _ v => v / 2) (fun v => decide (v % 2 = 1)) .lsrAccumulator .lsrZeroPage .lsrZeroPageX .lsrAbsolute
    .lsrAbsoluteX ∧
  Shifts (fun c v => (2 * v + c) % 256) (fun v => decide (v ≥ 128)) .rolAccumulator .rolZeroPage .rolZeroPageX
    .rolAbsolute .rolAbsoluteX ∧
  Shifts (fun c v => v / 2 + 128 * c) (fun v => decide (v % 2 = 1)) .rorAccumulator .rorZeroPage .rorZeroPageX
    .rorAbsolute .rorAbsoluteX

/-- AND, ORA and EOR, all eight forms of each (R211 to R213). -/
def Obligations.LogicActsBitwiseOnA : Prop :=
  overEightForms (fun i s n m => LoadsA i s n (s.a &&& m)) .andImmediate .andZeroPage .andZeroPageX .andAbsolute
    .andAbsoluteX .andAbsoluteY .andIndirectX .andIndirectY ∧
  overEightForms (fun i s n m => LoadsA i s n (s.a ||| m)) .oraImmediate .oraZeroPage .oraZeroPageX .oraAbsolute
    .oraAbsoluteX .oraAbsoluteY .oraIndirectX .oraIndirectY ∧
  overEightForms (fun i s n m => LoadsA i s n (s.a ^^^ m)) .eorImmediate .eorZeroPage .eorZeroPageX .eorAbsolute
    .eorAbsoluteX .eorAbsoluteY .eorIndirectX .eorIndirectY

/-- BIT, both forms (R214; the spec's decision D10, notes/assumptions/13.md). -/
def Obligations.BitTestsMemoryAgainstA : Prop :=
  ∀ (s : State) (b : Byte) (w : Word),
    TestsBits (.bitZeroPage b) s 2 (at_ s (.zeroPage b)) ∧ TestsBits (.bitAbsolute w) s 3 (at_ s (.absolute w))

/-- CMP, CPX and CPY, every form: only C, Z and N are written, from the unsigned comparison and the difference (R225
to R228), whatever D holds (the spec's decision D20, notes/assumptions/15.md). -/
def Obligations.ComparesSetCarryZeroNegative : Prop :=
  overEightForms (Compares (·.a)) .cmpImmediate .cmpZeroPage .cmpZeroPageX .cmpAbsolute .cmpAbsoluteX .cmpAbsoluteY
    .cmpIndirectX .cmpIndirectY ∧
  ∀ (s : State) (b : Byte) (w : Word),
    Compares (·.x) (.cpxImmediate b) s 2 b ∧ Compares (·.x) (.cpxZeroPage b) s 2 (at_ s (.zeroPage b)) ∧
    Compares (·.x) (.cpxAbsolute w) s 3 (at_ s (.absolute w)) ∧
    Compares (·.y) (.cpyImmediate b) s 2 b ∧ Compares (·.y) (.cpyZeroPage b) s 2 (at_ s (.zeroPage b)) ∧
    Compares (·.y) (.cpyAbsolute w) s 3 (at_ s (.absolute w))

/-! ### Control flow -/

/-- The eight branches (R240 to R248). Which flag and value each tests is the spec's decision D21
(notes/assumptions/13.md). -/
def Obligations.BranchesTestTheirFlag : Prop :=
  Branches .bcc (fun f => !f.c) ∧ Branches .bcs (·.c) ∧ Branches .beq (·.z) ∧ Branches .bne (fun f => !f.z) ∧
  Branches .bmi (·.n) ∧ Branches .bpl (fun f => !f.n) ∧ Branches .bvc (fun f => !f.v) ∧ Branches .bvs (·.v)

/-- JMP, both forms: PC becomes the address, nothing else changes; the Indirect pointer at the end of a page takes its
high byte from the start of the same page (R261). -/
def Obligations.JmpSetsPc : Prop :=
  ∀ (s : State) (w : Word),
    exec (.jmpAbsolute w) s = .next { s with pc := w } ∧
    exec (.jmpIndirect w) s = .next { s with
      pc := join (s.mem.read (BitVec.ofNat 16 (w.toNat / 256 * 256 + (w.toNat % 256 + 1) % 256))) (s.mem.read w) }

/-- JSR: the address of its last byte is pushed, high byte first, SP moves down by two, PC becomes the target, all
else is kept (R262; the push orders are the spec's decisions D6 and D7, notes/assumptions/11.md). -/
def Obligations.JsrPushesTheReturnAddress : Prop :=
  ∀ (s : State) (w : Word), ∃ t, exec (.jsr w) s = .next t ∧
    t = { s with pc := w, sp := s.sp - 2, mem := t.mem } ∧
    ∀ addr, t.mem.read addr =
      if addr = stackAt (s.sp - 1) then BitVec.ofNat 8 ((past s 2).toNat % 256)
      else if addr = stackAt s.sp then BitVec.ofNat 8 ((past s 2).toNat / 256)
      else s.mem.read addr

/-- RTS: two bytes are pulled, low byte first, and PC is their value plus 1 (R263; decisions D6 and D7,
notes/assumptions/11.md). -/
def Obligations.RtsPullsTheReturnAddress : Prop :=
  ∀ s : State, exec .rts s = .next { s with
    sp := s.sp + 2
    pc := join (s.mem.read (stackAt (s.sp + 2))) (s.mem.read (stackAt (s.sp + 1))) + 1 }

/-- "JSR followed by RTS returns programCounter to the instruction immediately after the JSR", whatever ran between,
if SP and the two pushed bytes are unchanged when RTS runs (R267). -/
def Obligations.JsrThenRtsReturnsAfterTheCall : Prop :=
  ∀ (s : State) (w : Word), ∃ t, exec (.jsr w) s = .next t ∧
    ∀ u : State, u.sp = t.sp → u.mem.read (stackAt s.sp) = t.mem.read (stackAt s.sp) →
      u.mem.read (stackAt (s.sp - 1)) = t.mem.read (stackAt (s.sp - 1)) →
      exec .rts u = .next { u with sp := s.sp, pc := past s 3 }

/-- BRK: the trap entry. pc0 + 2 and P with bits 4 and 5 set are pushed, I is set, PC is the word at `BRK_VECTOR` as
memory stands after the pushes, all else is kept, whatever I holds (R264, R323; the spec's decisions D4, D6, D7 and
D9, notes/assumptions/9.md, 11.md, 12.md). R264 gives BRK this effect where `BRK_RTI_MODELLED` holds; that exec gives
it also where the parameter is false (R266) is the model's choice (DESIGN CHOICE: notes/assumptions/6.md); no step
reaches it. -/
def Obligations.BrkTakesTheTrap : Prop :=
  ∀ s : State, ∃ t, exec .brk s = .next t ∧
    t = { s with
      sp := s.sp - 3
      flags := { s.flags with i := true }
      mem := t.mem
      pc := join (t.mem.read (s.cfg.brkVector + 1)) (t.mem.read s.cfg.brkVector) } ∧
    ∀ addr, t.mem.read addr =
      if addr = stackAt (s.sp - 2) then BitVec.ofNat 8 (pushedValue s.flags)
      else if addr = stackAt (s.sp - 1) then BitVec.ofNat 8 ((past s 2).toNat % 256)
      else if addr = stackAt s.sp then BitVec.ofNat 8 ((past s 2).toNat / 256)
      else s.mem.read addr

/-- RTI: the status byte is pulled into the flags, then PC, with no +1; all else is kept (R265; the spec's decisions
D5, D6, D7 and D9, notes/assumptions/10.md, 11.md, 12.md). R265 gives RTI this effect where `BRK_RTI_MODELLED` holds;
that exec gives it also where the parameter is false (R266) is the model's choice (DESIGN CHOICE:
notes/assumptions/6.md); no step reaches it. -/
def Obligations.RtiRestoresStatusAndPc : Prop :=
  ∀ s : State, exec .rti s = .next { s with
    sp := s.sp + 3
    flags := loadedFlags s.flags s.cfg.plpLoadsB (s.mem.read (stackAt (s.sp + 1))).toNat
    pc := join (s.mem.read (stackAt (s.sp + 3))) (s.mem.read (stackAt (s.sp + 2))) }

/-- A BRK and the RTI that returns from it: execution goes on at pc0 + 2 with SP and the flags as before the BRK,
whatever ran between, if SP and the three pushed bytes are unchanged; B is the handler's, or 1 under `PLP_LOADS_B`
(R264, R265, R329; the spec's decisions D4, D5, D6, D7 and D9, notes/assumptions/9.md, 10.md, 11.md, 12.md). That exec
runs BRK and RTI also where `BRK_RTI_MODELLED` is false (R266) is the model's choice (DESIGN CHOICE:
notes/assumptions/6.md); no step reaches it. -/
def Obligations.RtiReturnsFromBrk : Prop :=
  ∀ s : State, ∃ t, exec .brk s = .next t ∧
    ∀ u : State, u.sp = t.sp → (∀ k : Byte, k.toNat < 3 →
        u.mem.read (stackAt (s.sp - k)) = t.mem.read (stackAt (s.sp - k))) →
      exec .rti u = .next { u with
        sp := s.sp
        pc := past s 2
        flags := { s.flags with b := if u.cfg.plpLoadsB then true else u.flags.b } }

/-! ### Stack -/

/-- PHA and PLA (R281, R282): A is written at the stack location and SP moves down; SP moves up and A takes the byte
there, with Z and N from it. The order is the spec's decision D6 (notes/assumptions/11.md). -/
def Obligations.PhaAndPlaMoveTheAccumulator : Prop :=
  ∀ s : State,
    (∃ t, exec .pha s = .next t ∧ t = { s with pc := past s 1, sp := s.sp - 1, mem := t.mem } ∧
      ∀ addr, t.mem.read addr = if addr = stackAt s.sp then s.a else s.mem.read addr) ∧
    exec .pla s = .next { s with
      pc := past s 1
      sp := s.sp + 1
      a := s.mem.read (stackAt (s.sp + 1))
      flags := zn s.flags (s.mem.read (stackAt (s.sp + 1))) }

/-- PHP and PLP (R283, R284): the byte view with bits 4 and 5 set is pushed and no flag is written; the flags are
loaded from the pulled byte, B only under `PLP_LOADS_B`. The layout, bit 4 and B are the spec's decisions D3, D4 and D5
(notes/assumptions/9.md, 10.md). -/
def Obligations.PhpAndPlpMoveTheStatus : Prop :=
  ∀ s : State,
    (∃ t, exec .php s = .next t ∧ t = { s with pc := past s 1, sp := s.sp - 1, mem := t.mem } ∧
      ∀ addr, t.mem.read addr =
        if addr = stackAt s.sp then BitVec.ofNat 8 (pushedValue s.flags) else s.mem.read addr) ∧
    exec .plp s = .next { s with
      pc := past s 1
      sp := s.sp + 1
      flags := loadedFlags s.flags s.cfg.plpLoadsB (s.mem.read (stackAt (s.sp + 1))).toNat }

/-! ### Flags, transfers, NOP -/

/-- The seven flag instructions: one flag set or cleared, no other effect (R296 to R302). -/
def Obligations.FlagInstructionsWriteOneFlag : Prop :=
  SetsFlags .clc (fun f => { f with c := false }) ∧ SetsFlags .sec (fun f => { f with c := true }) ∧
  SetsFlags .cli (fun f => { f with i := false }) ∧ SetsFlags .sei (fun f => { f with i := true }) ∧
  SetsFlags .cld (fun f => { f with d := false }) ∧ SetsFlags .sed (fun f => { f with d := true }) ∧
  SetsFlags .clv (fun f => { f with v := false })

/-- The six transfers: the destination gets the source's byte; Z and N from it, except for TXS, which writes no flag
(R303 to R309). -/
def Obligations.TransfersCopyRegisters : Prop :=
  ∀ s : State,
    LoadsX .tax s 1 s.a ∧ LoadsA .txa s 1 s.x ∧ LoadsY .tay s 1 s.a ∧ LoadsA .tya s 1 s.y ∧ LoadsX .tsx s 1 s.sp ∧
    exec .txs s = .next { s with pc := past s 1, sp := s.x }

/-- NOP: PC advances by 1 and nothing else changes (R310). -/
def Obligations.NopOnlyAdvancesPc : Prop :=
  ∀ s : State, exec .nop s = .next { s with pc := past s 1 }
end

