-- ==== Sys2Proof/Laws/Bits.lean ====
section
/-!
SUPPORT. The numeric readings of the byte, word and flag helpers: joining and splitting words, extensions, the stack
address, the bits of the status byte and of the ALU.
-/

namespace Sys2Proof

theorem wordOf_toNat (hi lo : Byte) : (wordOf hi lo).toNat = hi.toNat * 256 + lo.toNat := by
  have h : (hi ++ lo).toNat = hi.toNat <<< 8 ||| lo.toNat := BitVec.toNat_append hi lo
  have h2 : hi.toNat <<< 8 ||| lo.toNat = hi.toNat <<< 8 + lo.toNat :=
    (Nat.shiftLeft_add_eq_or_of_lt lo.isLt hi.toNat).symm
  show (hi ++ lo).toNat = _
  rw [h, h2, Nat.shiftLeft_eq]

theorem loByte_toNat (w : Word) : (loByte w).toNat = w.toNat % 256 := by simp [loByte]

theorem hiByte_toNat (w : Word) : (hiByte w).toNat = w.toNat / 256 := by
  have := w.isLt
  simp only [hiByte, BitVec.extractLsb'_toNat, Nat.shiftRight_eq_div_pow]
  omega

namespace Machine

theorem zext16_toNat (v : Byte) : (zext16 v).toNat = v.toNat := by
  have := v.isLt
  simp only [zext16, BitVec.toNat_setWidth]
  omega

theorem sext16_toInt (v : Byte) : (sext16 v).toInt = v.toInt := by
  simp [sext16, BitVec.toInt_signExtend_of_le]

/-- R24: the stack location is 0x0100 + SP. -/
theorem stackAddress_toNat (sp : Byte) : (stackAddress sp).toNat = 256 + sp.toNat := by
  simp [stackAddress, wordOf_toNat]

theorem stackAddress_inj {p q : Byte} : stackAddress p = stackAddress q ↔ p = q := by
  constructor
  · intro h
    have := congrArg BitVec.toNat h
    simp only [stackAddress_toNat] at this
    exact BitVec.eq_of_toNat_eq (by omega)
  · exact congrArg _

/-- N of `SetZN` as the most significant bit. -/
theorem getLsbD_seven (v : Byte) : v.getLsbD 7 = v.msb := by simp [BitVec.msb_eq_getLsbD_last]

theorem bitAt_getLsbD (b : Bool) (k j : Nat) (hk : k < 8) (hj : j < 8) :
    (bitAt b k).getLsbD j = (b && decide (j = k)) := by
  interval_cases k <;> interval_cases j <;> cases b <;> decide

/-- The bits of the byte view, from bit 7 down (R27). -/
theorem byteView_bits (f : Flags) :
    f.byteView.getLsbD 7 = f.n ∧ f.byteView.getLsbD 6 = f.v ∧ f.byteView.getLsbD 5 = true ∧
    f.byteView.getLsbD 4 = f.b ∧ f.byteView.getLsbD 3 = f.d ∧ f.byteView.getLsbD 2 = f.i ∧
    f.byteView.getLsbD 1 = f.z ∧ f.byteView.getLsbD 0 = f.c := by
  obtain ⟨c, z, i, d, b, v, n⟩ := f
  simp only [Flags.byteView]
  cases c <;> cases z <;> cases i <;> cases d <;> cases b <;> cases v <;> cases n <;> decide

/-- The pushed byte is the byte view with B read as 1 (R283). -/
theorem pushedByte_eq (f : Flags) : f.pushedByte = Flags.byteView { f with b := true } := by
  obtain ⟨c, z, i, d, b, v, n⟩ := f
  simp only [Flags.pushedByte, Flags.byteView]
  cases c <;> cases z <;> cases i <;> cases d <;> cases b <;> cases v <;> cases n <;> decide

/-- What PLP loads from a pushed status byte: the flags that were pushed, B aside. -/
theorem pulled_pushedByte (f g : Flags) (loadsB : Bool) :
    g.pulled loadsB f.pushedByte = { f with b := if loadsB then true else g.b } := by
  rw [pushedByte_eq]
  obtain ⟨h7, h6, -, h4, h3, h2, h1, h0⟩ := byteView_bits { f with b := true }
  simp only [Flags.pulled, h7, h6, h4, h3, h2, h1, h0]

theorem addBin_toNat (a m : Byte) (c : Bool) :
    (addBin a m c).result.toNat = (a.toNat + m.toNat + c.toNat) % 256 := by simp [addBin]

theorem addBin_carry (a m : Byte) (c : Bool) :
    (addBin a m c).carry = decide (255 < a.toNat + m.toNat + c.toNat) := rfl

theorem isPackedBcd_iff (v : Byte) : isPackedBcd v = true ↔ v.toNat / 16 ≤ 9 ∧ v.toNat % 16 ≤ 9 := by
  simp [isPackedBcd]

end Machine

end Sys2Proof
end

