-- ==== Sys2Proof/Laws/Memory.lean ====
section
/-!
SUPPORT. The laws of memory: what is read after a write (20_memory.md R51), and that every memory operation keeps the
canonical form.
-/

namespace Sys2Proof.Machine

theorem lookup_remove_same (m : Memory) (addr : Nat) : (m.remove addr).lookup addr = Memory.unlisted := by
  induction m with
  | nil => rfl
  | cons cell m ih =>
    obtain ⟨k, v⟩ := cell
    by_cases hk : k = addr
    · simpa [Memory.remove, hk] using ih
    · simpa [Memory.remove, hk, Memory.lookup] using ih

theorem lookup_remove_other (m : Memory) {addr other : Nat} (h : other ≠ addr) :
    (m.remove addr).lookup other = m.lookup other := by
  induction m with
  | nil => rfl
  | cons cell m ih =>
    obtain ⟨k, v⟩ := cell
    by_cases hk : k = addr
    · subst hk
      simpa [Memory.remove, Memory.lookup, Ne.symm h] using ih
    · by_cases ho : k = other
      · simp [Memory.remove, Memory.lookup, ho, h]
      · simpa [Memory.remove, hk, Memory.lookup, ho] using ih

theorem lookup_place_other (m : Memory) {addr other : Nat} (v : Byte) (h : other ≠ addr) :
    (m.place addr v).lookup other = m.lookup other := by
  induction m with
  | nil => simp [Memory.place, Memory.lookup, Ne.symm h]
  | cons cell m ih =>
    obtain ⟨k, b⟩ := cell
    simp only [Memory.place]
    split
    · simp [Memory.lookup, Ne.symm h]
    · simp only [Memory.lookup, ih]

/-- A placed byte is found, provided no cell at its address stands before it. -/
theorem lookup_place_same (m : Memory) (addr : Nat) (v : Byte) (h : ∀ cell ∈ m, cell.1 ≠ addr) :
    (m.place addr v).lookup addr = v := by
  induction m with
  | nil => simp [Memory.place, Memory.lookup]
  | cons cell m ih =>
    obtain ⟨k, b⟩ := cell
    simp only [Memory.place]
    split
    · simp [Memory.lookup]
    · have hk : k ≠ addr := h (k, b) (by simp)
      simpa [Memory.lookup, hk] using ih (fun c hc => h c (by simp [hc]))

theorem remove_avoids (m : Memory) (addr : Nat) : ∀ cell ∈ m.remove addr, cell.1 ≠ addr := by
  simp [Memory.remove]

/-- A read gives the byte last written (R51). -/
@[simp] theorem read_write_same (m : Memory) (addr : Word) (v : Byte) : (m.write addr v).read addr = v := by
  simp only [Memory.read, Memory.write]
  split
  · next h => rw [lookup_remove_same, h]
  · exact lookup_place_same _ _ _ (remove_avoids m _)

/-- A write "changes no other byte" (R51). -/
theorem read_write_other (m : Memory) {addr other : Word} (v : Byte) (h : other ≠ addr) :
    (m.write addr v).read other = m.read other := by
  have hn : other.toNat ≠ addr.toNat := fun e => h (BitVec.eq_of_toNat_eq e)
  simp only [Memory.read, Memory.write]
  split
  · exact lookup_remove_other m hn
  · rw [lookup_place_other _ _ hn, lookup_remove_other m hn]

/-- Reading any byte after a write. -/
theorem read_write (m : Memory) (addr other : Word) (v : Byte) :
    (m.write addr v).read other = if other = addr then v else m.read other := by
  split
  · next h => rw [h, read_write_same]
  · next h => exact read_write_other m v h

/-- Memory that lists nothing reads as `unlisted` everywhere. -/
@[simp] theorem read_nil (addr : Word) : Memory.read [] addr = Memory.unlisted := rfl

theorem wfFrom_cons (lo k : Nat) (v : Byte) (m : Memory) :
    Memory.wfFrom lo ((k, v) :: m) = true ↔
      lo ≤ k ∧ k < 65536 ∧ v ≠ Memory.unlisted ∧ Memory.wfFrom (k + 1) m = true := by
  simp [Memory.wfFrom, and_assoc]

theorem wfFrom_mono {lo lo' : Nat} (h : lo' ≤ lo) {m : Memory} (hm : Memory.wfFrom lo m = true) :
    Memory.wfFrom lo' m = true := by
  cases m with
  | nil => rfl
  | cons cell m =>
    rw [wfFrom_cons] at hm ⊢
    exact ⟨h.trans hm.1, hm.2⟩

theorem wfFrom_remove (addr : Nat) {m : Memory} {lo : Nat} (hm : Memory.wfFrom lo m = true) :
    Memory.wfFrom lo (m.remove addr) = true := by
  induction m generalizing lo with
  | nil => rfl
  | cons cell m ih =>
    obtain ⟨k, v⟩ := cell
    rw [wfFrom_cons] at hm
    obtain ⟨h1, h2, h3, h4⟩ := hm
    by_cases hk : k = addr
    · have := wfFrom_mono (lo' := lo) (by omega) (ih h4)
      simpa [Memory.remove, hk] using this
    · have := ih h4
      have hc : Memory.remove ((k, v) :: m) addr = (k, v) :: Memory.remove m addr := by simp [Memory.remove, hk]
      rw [hc, wfFrom_cons]
      exact ⟨h1, h2, h3, this⟩

theorem wfFrom_place {addr : Nat} {v : Byte} (ha : addr < 65536) (hv : v ≠ Memory.unlisted) {m : Memory} {lo : Nat}
    (hlo : lo ≤ addr) (hm : Memory.wfFrom lo m = true) (hav : ∀ cell ∈ m, cell.1 ≠ addr) :
    Memory.wfFrom lo (m.place addr v) = true := by
  induction m generalizing lo with
  | nil => exact (wfFrom_cons _ _ _ _).2 ⟨hlo, ha, hv, rfl⟩
  | cons cell m ih =>
    obtain ⟨k, b⟩ := cell
    rw [wfFrom_cons] at hm
    obtain ⟨h1, h2, h3, h4⟩ := hm
    simp only [Memory.place]
    split
    · next hlt =>
      rw [wfFrom_cons, wfFrom_cons]
      exact ⟨hlo, ha, hv, by omega, h2, h3, h4⟩
    · next hge =>
      have hk : k ≠ addr := hav (k, b) (by simp)
      rw [wfFrom_cons]
      exact ⟨h1, h2, h3, ih (by omega) h4 (fun c hc => hav c (by simp [hc]))⟩

/-- A write keeps the canonical form. -/
theorem wf_write {m : Memory} (addr : Word) (v : Byte) (hm : m.wf = true) : (m.write addr v).wf = true := by
  unfold Memory.wf at hm ⊢
  unfold Memory.write
  split
  · exact wfFrom_remove _ hm
  · next hv =>
    exact wfFrom_place addr.isLt hv (Nat.zero_le _) (wfFrom_remove _ hm) (remove_avoids m _)

theorem wf_writeBytes (bytes : List Byte) {m : Memory} (addr : Word) (hm : m.wf = true) :
    (m.writeBytes addr bytes).wf = true := by
  induction bytes generalizing m addr with
  | nil => exact hm
  | cons b bytes ih => exact ih (addr + 1) (wf_write addr b hm)

theorem wf_loadImage (image : List Segment) {m : Memory} (hm : m.wf = true) : (m.loadImage image).wf = true := by
  induction image generalizing m with
  | nil => exact hm
  | cons seg image ih => exact ih (wf_writeBytes seg.bytes seg.offset hm)

/-- A run of `n` cells from address `lo` on, all holding `fill`, is in canonical form. -/
theorem wfFrom_run {fill : Byte} (hf : fill ≠ Memory.unlisted) (n lo : Nat) (h : lo + n ≤ 65536) :
    Memory.wfFrom lo ((List.range' lo n).map (fun k => (k, fill))) = true := by
  induction n generalizing lo with
  | zero => rfl
  | succ n ih =>
    rw [List.range'_succ, List.map_cons, wfFrom_cons]
    exact ⟨le_rfl, by omega, hf, ih (lo + 1) (by omega)⟩

theorem wf_filled (fill : Byte) : (Memory.filled fill).wf = true := by
  unfold Memory.filled
  split
  · rfl
  · next hf =>
    rw [List.range_eq_range']
    exact wfFrom_run hf 65536 0 le_rfl

/-- Looking up an address in such a run. -/
theorem lookup_run (fill : Byte) (n lo addr : Nat) (h1 : lo ≤ addr) (h2 : addr < lo + n) :
    Memory.lookup ((List.range' lo n).map (fun k => (k, fill))) addr = fill := by
  induction n generalizing lo with
  | zero => omega
  | succ n ih =>
    rw [List.range'_succ, List.map_cons, Memory.lookup]
    split
    · rfl
    · exact ih (lo + 1) (by omega) (by omega)

/-- Every byte of filled memory reads as the fill (R63). -/
theorem read_filled (fill : Byte) (addr : Word) : (Memory.filled fill).read addr = fill := by
  unfold Memory.filled Memory.read
  split
  · next h => exact h.symm
  · rw [List.range_eq_range']
    exact lookup_run fill 65536 0 _ (Nat.zero_le _) (by have := addr.isLt; omega)

end Sys2Proof.Machine
end

