-- ==== Sys2Proof/Laws/State.lean ====
section
/-!
SUPPORT. What each register update of Ops.lean does to each field of `State`: one lemma per field per update.
-/

namespace Sys2Proof.Machine

variable (s : State)

@[simp] theorem setA_a (v : Byte) : (s.setA v).a = v := rfl
@[simp] theorem setA_x (v : Byte) : (s.setA v).x = s.x := rfl
@[simp] theorem setA_y (v : Byte) : (s.setA v).y = s.y := rfl
@[simp] theorem setA_sp (v : Byte) : (s.setA v).sp = s.sp := rfl
@[simp] theorem setA_pc (v : Byte) : (s.setA v).pc = s.pc := rfl
@[simp] theorem setA_flags (v : Byte) : (s.setA v).flags = s.flags := rfl
@[simp] theorem setA_mem (v : Byte) : (s.setA v).mem = s.mem := rfl
@[simp] theorem setA_cfg (v : Byte) : (s.setA v).cfg = s.cfg := rfl
@[simp] theorem setA_draws (v : Byte) : (s.setA v).draws = s.draws := rfl

@[simp] theorem setX_a (v : Byte) : (s.setX v).a = s.a := rfl
@[simp] theorem setX_x (v : Byte) : (s.setX v).x = v := rfl
@[simp] theorem setX_y (v : Byte) : (s.setX v).y = s.y := rfl
@[simp] theorem setX_sp (v : Byte) : (s.setX v).sp = s.sp := rfl
@[simp] theorem setX_pc (v : Byte) : (s.setX v).pc = s.pc := rfl
@[simp] theorem setX_flags (v : Byte) : (s.setX v).flags = s.flags := rfl
@[simp] theorem setX_mem (v : Byte) : (s.setX v).mem = s.mem := rfl
@[simp] theorem setX_cfg (v : Byte) : (s.setX v).cfg = s.cfg := rfl
@[simp] theorem setX_draws (v : Byte) : (s.setX v).draws = s.draws := rfl

@[simp] theorem setY_a (v : Byte) : (s.setY v).a = s.a := rfl
@[simp] theorem setY_x (v : Byte) : (s.setY v).x = s.x := rfl
@[simp] theorem setY_y (v : Byte) : (s.setY v).y = v := rfl
@[simp] theorem setY_sp (v : Byte) : (s.setY v).sp = s.sp := rfl
@[simp] theorem setY_pc (v : Byte) : (s.setY v).pc = s.pc := rfl
@[simp] theorem setY_flags (v : Byte) : (s.setY v).flags = s.flags := rfl
@[simp] theorem setY_mem (v : Byte) : (s.setY v).mem = s.mem := rfl
@[simp] theorem setY_cfg (v : Byte) : (s.setY v).cfg = s.cfg := rfl
@[simp] theorem setY_draws (v : Byte) : (s.setY v).draws = s.draws := rfl

@[simp] theorem setSP_a (v : Byte) : (s.setSP v).a = s.a := rfl
@[simp] theorem setSP_x (v : Byte) : (s.setSP v).x = s.x := rfl
@[simp] theorem setSP_y (v : Byte) : (s.setSP v).y = s.y := rfl
@[simp] theorem setSP_sp (v : Byte) : (s.setSP v).sp = v := rfl
@[simp] theorem setSP_pc (v : Byte) : (s.setSP v).pc = s.pc := rfl
@[simp] theorem setSP_flags (v : Byte) : (s.setSP v).flags = s.flags := rfl
@[simp] theorem setSP_mem (v : Byte) : (s.setSP v).mem = s.mem := rfl
@[simp] theorem setSP_cfg (v : Byte) : (s.setSP v).cfg = s.cfg := rfl
@[simp] theorem setSP_draws (v : Byte) : (s.setSP v).draws = s.draws := rfl

@[simp] theorem setPC_a (v : Word) : (s.setPC v).a = s.a := rfl
@[simp] theorem setPC_x (v : Word) : (s.setPC v).x = s.x := rfl
@[simp] theorem setPC_y (v : Word) : (s.setPC v).y = s.y := rfl
@[simp] theorem setPC_sp (v : Word) : (s.setPC v).sp = s.sp := rfl
@[simp] theorem setPC_pc (v : Word) : (s.setPC v).pc = v := rfl
@[simp] theorem setPC_flags (v : Word) : (s.setPC v).flags = s.flags := rfl
@[simp] theorem setPC_mem (v : Word) : (s.setPC v).mem = s.mem := rfl
@[simp] theorem setPC_cfg (v : Word) : (s.setPC v).cfg = s.cfg := rfl
@[simp] theorem setPC_draws (v : Word) : (s.setPC v).draws = s.draws := rfl

@[simp] theorem setFlags_a (v : Flags) : (s.setFlags v).a = s.a := rfl
@[simp] theorem setFlags_x (v : Flags) : (s.setFlags v).x = s.x := rfl
@[simp] theorem setFlags_y (v : Flags) : (s.setFlags v).y = s.y := rfl
@[simp] theorem setFlags_sp (v : Flags) : (s.setFlags v).sp = s.sp := rfl
@[simp] theorem setFlags_pc (v : Flags) : (s.setFlags v).pc = s.pc := rfl
@[simp] theorem setFlags_flags (v : Flags) : (s.setFlags v).flags = v := rfl
@[simp] theorem setFlags_mem (v : Flags) : (s.setFlags v).mem = s.mem := rfl
@[simp] theorem setFlags_cfg (v : Flags) : (s.setFlags v).cfg = s.cfg := rfl
@[simp] theorem setFlags_draws (v : Flags) : (s.setFlags v).draws = s.draws := rfl

@[simp] theorem setMem_a (v : Memory) : (s.setMem v).a = s.a := rfl
@[simp] theorem setMem_x (v : Memory) : (s.setMem v).x = s.x := rfl
@[simp] theorem setMem_y (v : Memory) : (s.setMem v).y = s.y := rfl
@[simp] theorem setMem_sp (v : Memory) : (s.setMem v).sp = s.sp := rfl
@[simp] theorem setMem_pc (v : Memory) : (s.setMem v).pc = s.pc := rfl
@[simp] theorem setMem_flags (v : Memory) : (s.setMem v).flags = s.flags := rfl
@[simp] theorem setMem_mem (v : Memory) : (s.setMem v).mem = v := rfl
@[simp] theorem setMem_cfg (v : Memory) : (s.setMem v).cfg = s.cfg := rfl
@[simp] theorem setMem_draws (v : Memory) : (s.setMem v).draws = s.draws := rfl

@[simp] theorem countDraw_a : s.countDraw.a = s.a := rfl
@[simp] theorem countDraw_x : s.countDraw.x = s.x := rfl
@[simp] theorem countDraw_y : s.countDraw.y = s.y := rfl
@[simp] theorem countDraw_sp : s.countDraw.sp = s.sp := rfl
@[simp] theorem countDraw_pc : s.countDraw.pc = s.pc := rfl
@[simp] theorem countDraw_flags : s.countDraw.flags = s.flags := rfl
@[simp] theorem countDraw_mem : s.countDraw.mem = s.mem := rfl
@[simp] theorem countDraw_cfg : s.countDraw.cfg = s.cfg := rfl
@[simp] theorem countDraw_draws : s.countDraw.draws = s.draws + 1 := rfl

@[simp] theorem advance_a (n : Nat) : (s.advance n).a = s.a := rfl
@[simp] theorem advance_x (n : Nat) : (s.advance n).x = s.x := rfl
@[simp] theorem advance_y (n : Nat) : (s.advance n).y = s.y := rfl
@[simp] theorem advance_sp (n : Nat) : (s.advance n).sp = s.sp := rfl
@[simp] theorem advance_pc (n : Nat) : (s.advance n).pc = s.pc + BitVec.ofNat 16 n := rfl
@[simp] theorem advance_flags (n : Nat) : (s.advance n).flags = s.flags := rfl
@[simp] theorem advance_mem (n : Nat) : (s.advance n).mem = s.mem := rfl
@[simp] theorem advance_cfg (n : Nat) : (s.advance n).cfg = s.cfg := rfl
@[simp] theorem advance_draws (n : Nat) : (s.advance n).draws = s.draws := rfl

@[simp] theorem setZN_a (v : Byte) : (s.setZN v).a = s.a := rfl
@[simp] theorem setZN_x (v : Byte) : (s.setZN v).x = s.x := rfl
@[simp] theorem setZN_y (v : Byte) : (s.setZN v).y = s.y := rfl
@[simp] theorem setZN_sp (v : Byte) : (s.setZN v).sp = s.sp := rfl
@[simp] theorem setZN_pc (v : Byte) : (s.setZN v).pc = s.pc := rfl
@[simp] theorem setZN_flags (v : Byte) : (s.setZN v).flags = s.flags.setZN v := rfl
@[simp] theorem setZN_mem (v : Byte) : (s.setZN v).mem = s.mem := rfl
@[simp] theorem setZN_cfg (v : Byte) : (s.setZN v).cfg = s.cfg := rfl
@[simp] theorem setZN_draws (v : Byte) : (s.setZN v).draws = s.draws := rfl

@[simp] theorem read_eq (addr : Word) : s.read addr = s.mem.read addr := rfl

@[simp] theorem write_a (addr : Word) (v : Byte) : (s.write addr v).a = s.a := rfl
@[simp] theorem write_x (addr : Word) (v : Byte) : (s.write addr v).x = s.x := rfl
@[simp] theorem write_y (addr : Word) (v : Byte) : (s.write addr v).y = s.y := rfl
@[simp] theorem write_sp (addr : Word) (v : Byte) : (s.write addr v).sp = s.sp := rfl
@[simp] theorem write_pc (addr : Word) (v : Byte) : (s.write addr v).pc = s.pc := rfl
@[simp] theorem write_flags (addr : Word) (v : Byte) : (s.write addr v).flags = s.flags := rfl
@[simp] theorem write_mem (addr : Word) (v : Byte) : (s.write addr v).mem = s.mem.write addr v := rfl
@[simp] theorem write_cfg (addr : Word) (v : Byte) : (s.write addr v).cfg = s.cfg := rfl
@[simp] theorem write_draws (addr : Word) (v : Byte) : (s.write addr v).draws = s.draws := rfl

@[simp] theorem push_a (v : Byte) : (s.push v).a = s.a := rfl
@[simp] theorem push_x (v : Byte) : (s.push v).x = s.x := rfl
@[simp] theorem push_y (v : Byte) : (s.push v).y = s.y := rfl
@[simp] theorem push_sp (v : Byte) : (s.push v).sp = s.sp - 1 := rfl
@[simp] theorem push_pc (v : Byte) : (s.push v).pc = s.pc := rfl
@[simp] theorem push_flags (v : Byte) : (s.push v).flags = s.flags := rfl
@[simp] theorem push_mem (v : Byte) : (s.push v).mem = s.mem.write (stackAddress s.sp) v := rfl
@[simp] theorem push_cfg (v : Byte) : (s.push v).cfg = s.cfg := rfl
@[simp] theorem push_draws (v : Byte) : (s.push v).draws = s.draws := rfl

@[simp] theorem pull_a : s.pull.a = s.a := rfl
@[simp] theorem pull_x : s.pull.x = s.x := rfl
@[simp] theorem pull_y : s.pull.y = s.y := rfl
@[simp] theorem pull_sp : s.pull.sp = s.sp + 1 := rfl
@[simp] theorem pull_pc : s.pull.pc = s.pc := rfl
@[simp] theorem pull_flags : s.pull.flags = s.flags := rfl
@[simp] theorem pull_mem : s.pull.mem = s.mem := rfl
@[simp] theorem pull_cfg : s.pull.cfg = s.cfg := rfl
@[simp] theorem pull_draws : s.pull.draws = s.draws := rfl

@[simp] theorem setZN_c (f : Flags) (v : Byte) : (f.setZN v).c = f.c := rfl
@[simp] theorem setZN_z (f : Flags) (v : Byte) : (f.setZN v).z = (v == 0) := rfl
@[simp] theorem setZN_i (f : Flags) (v : Byte) : (f.setZN v).i = f.i := rfl
@[simp] theorem setZN_d (f : Flags) (v : Byte) : (f.setZN v).d = f.d := rfl
@[simp] theorem setZN_b (f : Flags) (v : Byte) : (f.setZN v).b = f.b := rfl
@[simp] theorem setZN_v (f : Flags) (v : Byte) : (f.setZN v).v = f.v := rfl
@[simp] theorem setZN_n (f : Flags) (v : Byte) : (f.setZN v).n = v.getLsbD 7 := rfl

end Sys2Proof.Machine
end

