-- ==== Sys2Proof/Laws/Ops.lean ====
section
/-!
SUPPORT. One lemma per shared operation that says all it does: the state it gives, field by field, with the operand
and the address named. Provers cite these instead of unfolding the operations.
-/

namespace Sys2Proof.Machine

/-! ### Stack, trap and return -/

/-- Two pushes (R57, R260): the high byte at the old SP, the low byte below it. -/
theorem pushWord_eq (s : State) (w : Word) :
    s.pushWord w = { s with
      mem := (s.mem.write (stackAddress s.sp) (hiByte w)).write (stackAddress (s.sp - 1)) (loByte w)
      sp := s.sp - 1 - 1 } := rfl

/-- Two pulls move SP up by two (R58). -/
theorem pullWord_eq (s : State) : s.pullWord = { s with sp := s.sp + 1 + 1 } := rfl

/-- The word two pulls answer (R260): low byte first. -/
theorem pulledWord_eq (s : State) :
    s.pulledWord = wordOf (s.mem.read (stackAddress (s.sp + 1 + 1))) (s.mem.read (stackAddress (s.sp + 1))) := rfl

/-- Memory after the three pushes of BRK. -/
def breakMemory (s : State) : Memory :=
  ((s.mem.write (stackAddress s.sp) (hiByte (s.pc + 2))).write (stackAddress (s.sp - 1)) (loByte (s.pc + 2))).write
    (stackAddress (s.sp - 1 - 1)) s.flags.pushedByte

/-- The trap entry (R323): three pushes, I set, PC read from the vector after them. -/
theorem takeBreak_eq (s : State) :
    takeBreak s = { s with
      mem := breakMemory s
      sp := s.sp - 1 - 1 - 1
      flags := { s.flags with i := true }
      pc := (breakMemory s).readWord s.cfg.brkVector } := by
  ext1 <;> simp [takeBreak, State.pushWord, breakMemory]

/-- Loading the status from the stack (R284). -/
theorem pullStatus_eq (s : State) :
    pullStatus s = { s with
      sp := s.sp + 1
      flags := s.flags.pulled s.cfg.plpLoadsB (s.mem.read (stackAddress (s.sp + 1))) } := rfl

/-- The return from the trap (R265): status, then PC. -/
theorem returnFromInterrupt_eq (s : State) :
    returnFromInterrupt s = { s with
      sp := s.sp + 1 + 1 + 1
      flags := s.flags.pulled s.cfg.plpLoadsB (s.mem.read (stackAddress (s.sp + 1)))
      pc := wordOf (s.mem.read (stackAddress (s.sp + 1 + 1 + 1))) (s.mem.read (stackAddress (s.sp + 1 + 1))) } := rfl

/-- RTS (R263). -/
theorem returnFromSubroutine_eq (s : State) :
    returnFromSubroutine s = { s with
      sp := s.sp + 1 + 1
      pc := wordOf (s.mem.read (stackAddress (s.sp + 1 + 1))) (s.mem.read (stackAddress (s.sp + 1))) + 1 } := rfl

/-- JSR (R262). -/
theorem callSubroutine_eq (addr16 : Word) (s : State) :
    callSubroutine addr16 s = { s with
      mem := (s.mem.write (stackAddress s.sp) (hiByte (s.pc + 3 - 1))).write (stackAddress (s.sp - 1))
        (loByte (s.pc + 3 - 1))
      sp := s.sp - 1 - 1
      pc := addr16 } := rfl

/-- PLA (R282). -/
theorem pullA_eq (s : State) :
    pullA s = { s with
      sp := s.sp + 1
      a := s.mem.read (stackAddress (s.sp + 1))
      flags := s.flags.setZN (s.mem.read (stackAddress (s.sp + 1))) } := rfl

/-! ### Operand access -/

/-- Only the Relative mode's address depends on PC. -/
theorem address_advance (m : AddressMode) (s : State) (n : Nat) (h : m.mode ≠ .relative) :
    m.address (s.advance n) = m.address s := by
  cases m <;> first | rfl | exact absurd rfl h

/-- Reading a target writes nothing but the target. -/
theorem store_target_eq (t : ShiftTarget) (v : Byte) (s : State) :
    t.store v s = match t with
      | .accumulator => { s with a := v }
      | .memory m => { s with mem := s.mem.write (m.address s) v } := by
  cases t <;> rfl

theorem addressMode_ne_accumulator (m : AddressMode) : m.mode ≠ .accumulator := by
  cases m <;> simp [AddressMode.mode]

theorem dataSource_ne_accumulator (src : DataSource) : src.mode ≠ .accumulator := by
  cases src with
  | immediate imm8 => simp [DataSource.mode]
  | memory m => exact addressMode_ne_accumulator m

/-! ### The families -/

theorem loadA_eq (src : DataSource) (s : State) :
    loadA src s = { s.advancePast src.mode with
      a := src.operand (s.advancePast src.mode)
      flags := s.flags.setZN (src.operand (s.advancePast src.mode)) } := rfl

theorem loadX_eq (src : DataSource) (s : State) :
    loadX src s = { s.advancePast src.mode with
      x := src.operand (s.advancePast src.mode)
      flags := s.flags.setZN (src.operand (s.advancePast src.mode)) } := rfl

theorem loadY_eq (src : DataSource) (s : State) :
    loadY src s = { s.advancePast src.mode with
      y := src.operand (s.advancePast src.mode)
      flags := s.flags.setZN (src.operand (s.advancePast src.mode)) } := rfl

theorem store_eq (v : Byte) (m : AddressMode) (s : State) :
    store v m s = { s.advancePast m.mode with mem := s.mem.write (m.address (s.advancePast m.mode)) v } := rfl

/-- Which fields ADC and SBC write: A, C, V, Z and N (R150), and the model's draw counter. -/
theorem accumulate_frame (bin : AluResult) (dec : Byte × Bool) (m : Byte) (s : State) :
    ∃ r c k, accumulate bin dec m s = { s with
      a := r, flags := ({ s.flags with c := c, v := bin.overflow }.setZN r), draws := k } := by
  unfold accumulate
  split
  · split
    split <;> exact ⟨_, _, _, rfl⟩
  · exact ⟨_, _, _, rfl⟩

/-- Binary arithmetic (R158, R159 with D = 0). -/
theorem accumulate_binary (bin : AluResult) (dec : Byte × Bool) (m : Byte) (s : State) (h : s.flags.d = false) :
    accumulate bin dec m s = s.setSum bin.result bin.carry bin.overflow := by
  simp [accumulate, h]

/-- Decimal arithmetic when no draw is made (R157): the algorithm's result, the binary V. -/
theorem accumulate_decimal (bin : AluResult) (dec : Byte × Bool) (m : Byte) (s : State) (h : s.flags.d = true)
    (hd : s.drawsOn m = false) : accumulate bin dec m s = s.setSum dec.1 dec.2 bin.overflow := by
  simp [accumulate, h, hd, State.decimalResult]

/-- Decimal arithmetic when the result is drawn (R157). -/
theorem accumulate_drawn (bin : AluResult) (dec : Byte × Bool) (m : Byte) (s : State) (h : s.flags.d = true)
    (hd : s.drawsOn m = true) :
    accumulate bin dec m s =
      s.countDraw.setSum (Config.freeByte s.draws) (Config.freeBit s.draws) bin.overflow := by
  simp [accumulate, h, hd, State.decimalResult]

theorem modifyMemory_eq (f : Byte → Byte) (m : AddressMode) (s : State) :
    modifyMemory f m s = { s.advancePast m.mode with
      mem := s.mem.write (m.address (s.advancePast m.mode)) (f (s.mem.read (m.address (s.advancePast m.mode))))
      flags := s.flags.setZN (f (s.mem.read (m.address (s.advancePast m.mode)))) } := rfl

theorem shiftTarget_eq (bits : Bool → Byte → Byte × Bool) (t : ShiftTarget) (s : State) :
    shiftTarget bits t s =
      { t.store (bits s.flags.c (t.value (s.advancePast t.mode))).1 (s.advancePast t.mode) with
        flags := { s.flags with c := (bits s.flags.c (t.value (s.advancePast t.mode))).2 }.setZN
          (bits s.flags.c (t.value (s.advancePast t.mode))).1 } := rfl

/-- A shift in its Accumulator form writes A, C, Z, N and PC; in a memory form, one byte of memory in place of A
(R195). -/
theorem shiftTarget_frame (bits : Bool → Byte → Byte × Bool) (t : ShiftTarget) (s : State) :
    ∃ r c, shiftTarget bits t s = { s.advancePast t.mode with
      a := (shiftTarget bits t s).a
      mem := (shiftTarget bits t s).mem
      flags := { s.flags with c := c }.setZN r } ∧
    (t.mode ≠ .accumulator → (shiftTarget bits t s).a = s.a) ∧
    (t.mode = .accumulator → (shiftTarget bits t s).mem = s.mem) := by
  refine ⟨(bits s.flags.c (t.value (s.advancePast t.mode))).1, (bits s.flags.c (t.value (s.advancePast t.mode))).2, ?_⟩
  cases t with
  | accumulator => exact ⟨rfl, fun h => absurd rfl h, fun _ => rfl⟩
  | memory m => exact ⟨rfl, fun _ => rfl, fun h => absurd h (addressMode_ne_accumulator m)⟩

theorem logicA_eq (f : Byte → Byte → Byte) (src : DataSource) (s : State) :
    logicA f src s = { s.advancePast src.mode with
      a := f s.a (src.operand (s.advancePast src.mode))
      flags := s.flags.setZN (f s.a (src.operand (s.advancePast src.mode))) } := rfl

theorem bitTest_eq (m : AddressMode) (s : State) :
    bitTest m s = { s.advancePast m.mode with
      flags := { s.flags with
        z := s.a &&& s.mem.read (m.address (s.advancePast m.mode)) == 0
        n := (s.mem.read (m.address (s.advancePast m.mode))).getLsbD 7
        v := (s.mem.read (m.address (s.advancePast m.mode))).getLsbD 6 } } := rfl

theorem compareWith_eq (r : Byte) (src : DataSource) (s : State) :
    compareWith r src s = { s.advancePast src.mode with
      flags := s.flags.compared r (src.operand (s.advancePast src.mode)) } := rfl

/-- A branch writes PC and nothing else (R240). -/
theorem branch_eq (taken : Bool) (disp8 : Byte) (s : State) :
    branch taken disp8 s = s.setPC (if taken then s.pc + 2 + sext16 disp8 else s.pc + 2) := by
  cases taken <;> rfl

theorem jumpTo_eq (m : AddressMode) (s : State) :
    jumpTo m s = s.setPC (m.address (s.advancePast m.mode)) := rfl

/-! ### Canonical memory -/

theorem wf_push {s : State} (v : Byte) (h : s.mem.wf = true) : (s.push v).mem.wf = true := wf_write _ _ h

theorem wf_breakMemory {s : State} (h : s.mem.wf = true) : (breakMemory s).wf = true :=
  wf_write _ _ (wf_write _ _ (wf_write _ _ h))

theorem wf_store_target (t : ShiftTarget) (v : Byte) {s : State} (h : s.mem.wf = true) :
    (t.store v s).mem.wf = true := by
  cases t with
  | accumulator => exact h
  | memory m => exact wf_write _ _ h

theorem accumulate_mem (bin : AluResult) (dec : Byte × Bool) (m : Byte) (s : State) :
    (accumulate bin dec m s).mem = s.mem := by
  obtain ⟨_, _, _, h⟩ := accumulate_frame bin dec m s
  rw [h]

end Sys2Proof.Machine
end

