-- ==== Sys2Proof/Laws/Exec.lean ====
section
/-!
SUPPORT. The inversion lemma of `exec`: said once, what an instruction of each mnemonic can do. A proof about every
instruction takes `Effect` apart, one case per mnemonic, instead of 151 arms.
-/

namespace Sys2Proof.Machine

/-- The state an instruction of a mnemonic and a mode leads to from `s`. -/
inductive Effect (s : State) : Mnemonic → Mode → State → Prop where
  | lda (src : DataSource) : Effect s .LDA src.mode (loadA src s)
  | ldx (src : DataSource) : Effect s .LDX src.mode (loadX src s)
  | ldy (src : DataSource) : Effect s .LDY src.mode (loadY src s)
  | sta (m : AddressMode) : Effect s .STA m.mode (store s.a m s)
  | stx (m : AddressMode) : Effect s .STX m.mode (store s.x m s)
  | sty (m : AddressMode) : Effect s .STY m.mode (store s.y m s)
  | adc (src : DataSource) : Effect s .ADC src.mode (addWithCarry src s)
  | sbc (src : DataSource) : Effect s .SBC src.mode (subtractWithBorrow src s)
  | inc (m : AddressMode) : Effect s .INC m.mode (modifyMemory (· + 1) m s)
  | dec (m : AddressMode) : Effect s .DEC m.mode (modifyMemory (· - 1) m s)
  | inx : Effect s .INX .implicit (loadedIntoX (s.x + 1) (s.advance 1))
  | iny : Effect s .INY .implicit (loadedIntoY (s.y + 1) (s.advance 1))
  | dex : Effect s .DEX .implicit (loadedIntoX (s.x - 1) (s.advance 1))
  | dey : Effect s .DEY .implicit (loadedIntoY (s.y - 1) (s.advance 1))
  | asl (t : ShiftTarget) : Effect s .ASL t.mode (shiftTarget aslBits t s)
  | lsr (t : ShiftTarget) : Effect s .LSR t.mode (shiftTarget lsrBits t s)
  | rol (t : ShiftTarget) : Effect s .ROL t.mode (shiftTarget rolBits t s)
  | ror (t : ShiftTarget) : Effect s .ROR t.mode (shiftTarget rorBits t s)
  | and (src : DataSource) : Effect s .AND src.mode (logicA (· &&& ·) src s)
  | ora (src : DataSource) : Effect s .ORA src.mode (logicA (· ||| ·) src s)
  | eor (src : DataSource) : Effect s .EOR src.mode (logicA (· ^^^ ·) src s)
  | bit (m : AddressMode) : Effect s .BIT m.mode (bitTest m s)
  | cmp (src : DataSource) : Effect s .CMP src.mode (compareWith s.a src s)
  | cpx (src : DataSource) : Effect s .CPX src.mode (compareWith s.x src s)
  | cpy (src : DataSource) : Effect s .CPY src.mode (compareWith s.y src s)
  | bcc (disp8 : Byte) : Effect s .BCC .relative (branch (!s.flags.c) disp8 s)
  | bcs (disp8 : Byte) : Effect s .BCS .relative (branch s.flags.c disp8 s)
  | beq (disp8 : Byte) : Effect s .BEQ .relative (branch s.flags.z disp8 s)
  | bne (disp8 : Byte) : Effect s .BNE .relative (branch (!s.flags.z) disp8 s)
  | bmi (disp8 : Byte) : Effect s .BMI .relative (branch s.flags.n disp8 s)
  | bpl (disp8 : Byte) : Effect s .BPL .relative (branch (!s.flags.n) disp8 s)
  | bvc (disp8 : Byte) : Effect s .BVC .relative (branch (!s.flags.v) disp8 s)
  | bvs (disp8 : Byte) : Effect s .BVS .relative (branch s.flags.v disp8 s)
  | jmp (m : AddressMode) : Effect s .JMP m.mode (jumpTo m s)
  | jsr (addr16 : Word) : Effect s .JSR .absolute (callSubroutine addr16 s)
  | rts : Effect s .RTS .implicit (returnFromSubroutine (s.advance 1))
  | brk : Effect s .BRK .implicit (takeBreak s)
  | rti : Effect s .RTI .implicit (returnFromInterrupt (s.advance 1))
  | pha : Effect s .PHA .implicit ((s.advance 1).push s.a)
  | pla : Effect s .PLA .implicit (pullA (s.advance 1))
  | php : Effect s .PHP .implicit ((s.advance 1).push s.flags.pushedByte)
  | plp : Effect s .PLP .implicit (pullStatus (s.advance 1))
  | clc : Effect s .CLC .implicit ((s.advance 1).setFlags { s.flags with c := false })
  | sec : Effect s .SEC .implicit ((s.advance 1).setFlags { s.flags with c := true })
  | cli : Effect s .CLI .implicit ((s.advance 1).setFlags { s.flags with i := false })
  | sei : Effect s .SEI .implicit ((s.advance 1).setFlags { s.flags with i := true })
  | cld : Effect s .CLD .implicit ((s.advance 1).setFlags { s.flags with d := false })
  | sed : Effect s .SED .implicit ((s.advance 1).setFlags { s.flags with d := true })
  | clv : Effect s .CLV .implicit ((s.advance 1).setFlags { s.flags with v := false })
  | tax : Effect s .TAX .implicit (loadedIntoX s.a (s.advance 1))
  | txa : Effect s .TXA .implicit (loadedIntoA s.x (s.advance 1))
  | tay : Effect s .TAY .implicit (loadedIntoY s.a (s.advance 1))
  | tya : Effect s .TYA .implicit (loadedIntoA s.y (s.advance 1))
  | tsx : Effect s .TSX .implicit (loadedIntoX s.sp (s.advance 1))
  | txs : Effect s .TXS .implicit ((s.advance 1).setSP s.x)
  | nop : Effect s .NOP .implicit (s.advance 1)

/-- Every instruction answers a next state, and it is the one its mnemonic's effect gives. -/
theorem exec_effect (i : Instr) (s : State) : ∃ t, exec i s = .next t ∧ Effect s i.mnemonic i.mode t :=
  match i with
  | .ldaImmediate imm8 => ⟨_, rfl, .lda (.immediate imm8)⟩
  | .ldaZeroPage zp8 => ⟨_, rfl, .lda (.memory (.zeroPage zp8))⟩
  | .ldaZeroPageX zp8 => ⟨_, rfl, .lda (.memory (.zeroPageX zp8))⟩
  | .ldaAbsolute addr16 => ⟨_, rfl, .lda (.memory (.absolute addr16))⟩
  | .ldaAbsoluteX addr16 => ⟨_, rfl, .lda (.memory (.absoluteX addr16))⟩
  | .ldaAbsoluteY addr16 => ⟨_, rfl, .lda (.memory (.absoluteY addr16))⟩
  | .ldaIndirectX zp8 => ⟨_, rfl, .lda (.memory (.indirectX zp8))⟩
  | .ldaIndirectY zp8 => ⟨_, rfl, .lda (.memory (.indirectY zp8))⟩
  | .ldxImmediate imm8 => ⟨_, rfl, .ldx (.immediate imm8)⟩
  | .ldxZeroPage zp8 => ⟨_, rfl, .ldx (.memory (.zeroPage zp8))⟩
  | .ldxZeroPageY zp8 => ⟨_, rfl, .ldx (.memory (.zeroPageY zp8))⟩
  | .ldxAbsolute addr16 => ⟨_, rfl, .ldx (.memory (.absolute addr16))⟩
  | .ldxAbsoluteY addr16 => ⟨_, rfl, .ldx (.memory (.absoluteY addr16))⟩
  | .ldyImmediate imm8 => ⟨_, rfl, .ldy (.immediate imm8)⟩
  | .ldyZeroPage zp8 => ⟨_, rfl, .ldy (.memory (.zeroPage zp8))⟩
  | .ldyZeroPageX zp8 => ⟨_, rfl, .ldy (.memory (.zeroPageX zp8))⟩
  | .ldyAbsolute addr16 => ⟨_, rfl, .ldy (.memory (.absolute addr16))⟩
  | .ldyAbsoluteX addr16 => ⟨_, rfl, .ldy (.memory (.absoluteX addr16))⟩
  | .staZeroPage zp8 => ⟨_, rfl, .sta (.zeroPage zp8)⟩
  | .staZeroPageX zp8 => ⟨_, rfl, .sta (.zeroPageX zp8)⟩
  | .staAbsolute addr16 => ⟨_, rfl, .sta (.absolute addr16)⟩
  | .staAbsoluteX addr16 => ⟨_, rfl, .sta (.absoluteX addr16)⟩
  | .staAbsoluteY addr16 => ⟨_, rfl, .sta (.absoluteY addr16)⟩
  | .staIndirectX zp8 => ⟨_, rfl, .sta (.indirectX zp8)⟩
  | .staIndirectY zp8 => ⟨_, rfl, .sta (.indirectY zp8)⟩
  | .stxZeroPage zp8 => ⟨_, rfl, .stx (.zeroPage zp8)⟩
  | .stxZeroPageY zp8 => ⟨_, rfl, .stx (.zeroPageY zp8)⟩
  | .stxAbsolute addr16 => ⟨_, rfl, .stx (.absolute addr16)⟩
  | .styZeroPage zp8 => ⟨_, rfl, .sty (.zeroPage zp8)⟩
  | .styZeroPageX zp8 => ⟨_, rfl, .sty (.zeroPageX zp8)⟩
  | .styAbsolute addr16 => ⟨_, rfl, .sty (.absolute addr16)⟩
  | .adcImmediate imm8 => ⟨_, rfl, .adc (.immediate imm8)⟩
  | .adcZeroPage zp8 => ⟨_, rfl, .adc (.memory (.zeroPage zp8))⟩
  | .adcZeroPageX zp8 => ⟨_, rfl, .adc (.memory (.zeroPageX zp8))⟩
  | .adcAbsolute addr16 => ⟨_, rfl, .adc (.memory (.absolute addr16))⟩
  | .adcAbsoluteX addr16 => ⟨_, rfl, .adc (.memory (.absoluteX addr16))⟩
  | .adcAbsoluteY addr16 => ⟨_, rfl, .adc (.memory (.absoluteY addr16))⟩
  | .adcIndirectX zp8 => ⟨_, rfl, .adc (.memory (.indirectX zp8))⟩
  | .adcIndirectY zp8 => ⟨_, rfl, .adc (.memory (.indirectY zp8))⟩
  | .sbcImmediate imm8 => ⟨_, rfl, .sbc (.immediate imm8)⟩
  | .sbcZeroPage zp8 => ⟨_, rfl, .sbc (.memory (.zeroPage zp8))⟩
  | .sbcZeroPageX zp8 => ⟨_, rfl, .sbc (.memory (.zeroPageX zp8))⟩
  | .sbcAbsolute addr16 => ⟨_, rfl, .sbc (.memory (.absolute addr16))⟩
  | .sbcAbsoluteX addr16 => ⟨_, rfl, .sbc (.memory (.absoluteX addr16))⟩
  | .sbcAbsoluteY addr16 => ⟨_, rfl, .sbc (.memory (.absoluteY addr16))⟩
  | .sbcIndirectX zp8 => ⟨_, rfl, .sbc (.memory (.indirectX zp8))⟩
  | .sbcIndirectY zp8 => ⟨_, rfl, .sbc (.memory (.indirectY zp8))⟩
  | .incZeroPage zp8 => ⟨_, rfl, .inc (.zeroPage zp8)⟩
  | .incZeroPageX zp8 => ⟨_, rfl, .inc (.zeroPageX zp8)⟩
  | .incAbsolute addr16 => ⟨_, rfl, .inc (.absolute addr16)⟩
  | .incAbsoluteX addr16 => ⟨_, rfl, .inc (.absoluteX addr16)⟩
  | .decZeroPage zp8 => ⟨_, rfl, .dec (.zeroPage zp8)⟩
  | .decZeroPageX zp8 => ⟨_, rfl, .dec (.zeroPageX zp8)⟩
  | .decAbsolute addr16 => ⟨_, rfl, .dec (.absolute addr16)⟩
  | .decAbsoluteX addr16 => ⟨_, rfl, .dec (.absoluteX addr16)⟩
  | .inx => ⟨_, rfl, .inx⟩
  | .iny => ⟨_, rfl, .iny⟩
  | .dex => ⟨_, rfl, .dex⟩
  | .dey => ⟨_, rfl, .dey⟩
  | .aslAccumulator => ⟨_, rfl, .asl .accumulator⟩
  | .aslZeroPage zp8 => ⟨_, rfl, .asl (.memory (.zeroPage zp8))⟩
  | .aslZeroPageX zp8 => ⟨_, rfl, .asl (.memory (.zeroPageX zp8))⟩
  | .aslAbsolute addr16 => ⟨_, rfl, .asl (.memory (.absolute addr16))⟩
  | .aslAbsoluteX addr16 => ⟨_, rfl, .asl (.memory (.absoluteX addr16))⟩
  | .lsrAccumulator => ⟨_, rfl, .lsr .accumulator⟩
  | .lsrZeroPage zp8 => ⟨_, rfl, .lsr (.memory (.zeroPage zp8))⟩
  | .lsrZeroPageX zp8 => ⟨_, rfl, .lsr (.memory (.zeroPageX zp8))⟩
  | .lsrAbsolute addr16 => ⟨_, rfl, .lsr (.memory (.absolute addr16))⟩
  | .lsrAbsoluteX addr16 => ⟨_, rfl, .lsr (.memory (.absoluteX addr16))⟩
  | .rolAccumulator => ⟨_, rfl, .rol .accumulator⟩
  | .rolZeroPage zp8 => ⟨_, rfl, .rol (.memory (.zeroPage zp8))⟩
  | .rolZeroPageX zp8 => ⟨_, rfl, .rol (.memory (.zeroPageX zp8))⟩
  | .rolAbsolute addr16 => ⟨_, rfl, .rol (.memory (.absolute addr16))⟩
  | .rolAbsoluteX addr16 => ⟨_, rfl, .rol (.memory (.absoluteX addr16))⟩
  | .rorAccumulator => ⟨_, rfl, .ror .accumulator⟩
  | .rorZeroPage zp8 => ⟨_, rfl, .ror (.memory (.zeroPage zp8))⟩
  | .rorZeroPageX zp8 => ⟨_, rfl, .ror (.memory (.zeroPageX zp8))⟩
  | .rorAbsolute addr16 => ⟨_, rfl, .ror (.memory (.absolute addr16))⟩
  | .rorAbsoluteX addr16 => ⟨_, rfl, .ror (.memory (.absoluteX addr16))⟩
  | .andImmediate imm8 => ⟨_, rfl, .and (.immediate imm8)⟩
  | .andZeroPage zp8 => ⟨_, rfl, .and (.memory (.zeroPage zp8))⟩
  | .andZeroPageX zp8 => ⟨_, rfl, .and (.memory (.zeroPageX zp8))⟩
  | .andAbsolute addr16 => ⟨_, rfl, .and (.memory (.absolute addr16))⟩
  | .andAbsoluteX addr16 => ⟨_, rfl, .and (.memory (.absoluteX addr16))⟩
  | .andAbsoluteY addr16 => ⟨_, rfl, .and (.memory (.absoluteY addr16))⟩
  | .andIndirectX zp8 => ⟨_, rfl, .and (.memory (.indirectX zp8))⟩
  | .andIndirectY zp8 => ⟨_, rfl, .and (.memory (.indirectY zp8))⟩
  | .oraImmediate imm8 => ⟨_, rfl, .ora (.immediate imm8)⟩
  | .oraZeroPage zp8 => ⟨_, rfl, .ora (.memory (.zeroPage zp8))⟩
  | .oraZeroPageX zp8 => ⟨_, rfl, .ora (.memory (.zeroPageX zp8))⟩
  | .oraAbsolute addr16 => ⟨_, rfl, .ora (.memory (.absolute addr16))⟩
  | .oraAbsoluteX addr16 => ⟨_, rfl, .ora (.memory (.absoluteX addr16))⟩
  | .oraAbsoluteY addr16 => ⟨_, rfl, .ora (.memory (.absoluteY addr16))⟩
  | .oraIndirectX zp8 => ⟨_, rfl, .ora (.memory (.indirectX zp8))⟩
  | .oraIndirectY zp8 => ⟨_, rfl, .ora (.memory (.indirectY zp8))⟩
  | .eorImmediate imm8 => ⟨_, rfl, .eor (.immediate imm8)⟩
  | .eorZeroPage zp8 => ⟨_, rfl, .eor (.memory (.zeroPage zp8))⟩
  | .eorZeroPageX zp8 => ⟨_, rfl, .eor (.memory (.zeroPageX zp8))⟩
  | .eorAbsolute addr16 => ⟨_, rfl, .eor (.memory (.absolute addr16))⟩
  | .eorAbsoluteX addr16 => ⟨_, rfl, .eor (.memory (.absoluteX addr16))⟩
  | .eorAbsoluteY addr16 => ⟨_, rfl, .eor (.memory (.absoluteY addr16))⟩
  | .eorIndirectX zp8 => ⟨_, rfl, .eor (.memory (.indirectX zp8))⟩
  | .eorIndirectY zp8 => ⟨_, rfl, .eor (.memory (.indirectY zp8))⟩
  | .bitZeroPage zp8 => ⟨_, rfl, .bit (.zeroPage zp8)⟩
  | .bitAbsolute addr16 => ⟨_, rfl, .bit (.absolute addr16)⟩
  | .cmpImmediate imm8 => ⟨_, rfl, .cmp (.immediate imm8)⟩
  | .cmpZeroPage zp8 => ⟨_, rfl, .cmp (.memory (.zeroPage zp8))⟩
  | .cmpZeroPageX zp8 => ⟨_, rfl, .cmp (.memory (.zeroPageX zp8))⟩
  | .cmpAbsolute addr16 => ⟨_, rfl, .cmp (.memory (.absolute addr16))⟩
  | .cmpAbsoluteX addr16 => ⟨_, rfl, .cmp (.memory (.absoluteX addr16))⟩
  | .cmpAbsoluteY addr16 => ⟨_, rfl, .cmp (.memory (.absoluteY addr16))⟩
  | .cmpIndirectX zp8 => ⟨_, rfl, .cmp (.memory (.indirectX zp8))⟩
  | .cmpIndirectY zp8 => ⟨_, rfl, .cmp (.memory (.indirectY zp8))⟩
  | .cpxImmediate imm8 => ⟨_, rfl, .cpx (.immediate imm8)⟩
  | .cpxZeroPage zp8 => ⟨_, rfl, .cpx (.memory (.zeroPage zp8))⟩
  | .cpxAbsolute addr16 => ⟨_, rfl, .cpx (.memory (.absolute addr16))⟩
  | .cpyImmediate imm8 => ⟨_, rfl, .cpy (.immediate imm8)⟩
  | .cpyZeroPage zp8 => ⟨_, rfl, .cpy (.memory (.zeroPage zp8))⟩
  | .cpyAbsolute addr16 => ⟨_, rfl, .cpy (.memory (.absolute addr16))⟩
  | .bcc disp8 => ⟨_, rfl, .bcc disp8⟩
  | .bcs disp8 => ⟨_, rfl, .bcs disp8⟩
  | .beq disp8 => ⟨_, rfl, .beq disp8⟩
  | .bne disp8 => ⟨_, rfl, .bne disp8⟩
  | .bmi disp8 => ⟨_, rfl, .bmi disp8⟩
  | .bpl disp8 => ⟨_, rfl, .bpl disp8⟩
  | .bvc disp8 => ⟨_, rfl, .bvc disp8⟩
  | .bvs disp8 => ⟨_, rfl, .bvs disp8⟩
  | .jmpAbsolute addr16 => ⟨_, rfl, .jmp (.absolute addr16)⟩
  | .jmpIndirect addr16 => ⟨_, rfl, .jmp (.indirect addr16)⟩
  | .jsr addr16 => ⟨_, rfl, .jsr addr16⟩
  | .rts => ⟨_, rfl, .rts⟩
  | .brk => ⟨_, rfl, .brk⟩
  | .rti => ⟨_, rfl, .rti⟩
  | .pha => ⟨_, rfl, .pha⟩
  | .pla => ⟨_, rfl, .pla⟩
  | .php => ⟨_, rfl, .php⟩
  | .plp => ⟨_, rfl, .plp⟩
  | .clc => ⟨_, rfl, .clc⟩
  | .sec => ⟨_, rfl, .sec⟩
  | .cli => ⟨_, rfl, .cli⟩
  | .sei => ⟨_, rfl, .sei⟩
  | .cld => ⟨_, rfl, .cld⟩
  | .sed => ⟨_, rfl, .sed⟩
  | .clv => ⟨_, rfl, .clv⟩
  | .tax => ⟨_, rfl, .tax⟩
  | .txa => ⟨_, rfl, .txa⟩
  | .tay => ⟨_, rfl, .tay⟩
  | .tya => ⟨_, rfl, .tya⟩
  | .tsx => ⟨_, rfl, .tsx⟩
  | .txs => ⟨_, rfl, .txs⟩
  | .nop => ⟨_, rfl, .nop⟩

/-- From an answered state back to the effect. -/
theorem effect_of_exec {i : Instr} {s t : State} (h : exec i s = .next t) : Effect s i.mnemonic i.mode t := by
  obtain ⟨u, hu, he⟩ := exec_effect i s
  rw [hu] at h
  injection h with h
  exact h ▸ he

end Sys2Proof.Machine
end

