-- ==== Sys2Proof/Laws/PerInstr.lean ====
section
/-!
SUPPORT. Facts about every instruction as syntax, one lemma per constructor: the encoder writes as many bytes as the
descriptor says, and the opcode map's row for an encoded instruction reads that instruction back.
-/

namespace Sys2Proof.Laws

/-- The two bytes of a word, joined, are the word. -/
theorem wordOf_hi_lo (w : Word) : wordOf (hiByte w) (loByte w) = w := by
  simp only [wordOf, hiByte, loByte]
  ext k hk
  simp only [BitVec.getElem_append, BitVec.getElem_setWidth, BitVec.getElem_extractLsb']
  split
  · exact BitVec.getLsbD_eq_getElem hk
  · rw [show 8 + (k - 8) = k by omega]
    exact BitVec.getLsbD_eq_getElem hk

/-- The encoding has the descriptor's length (R80). -/
def EncodingLength.Statement (i : Instr) : Prop := (encode i).length = i.length

/-- The opcode map has a row for the instruction's opcode byte, and that row reads the instruction from its operand
bytes, whatever follows (R81 to R84, R105). -/
def DispatchRow.Statement (i : Instr) : Prop :=
  ∃ op operands row, encode i = op :: operands ∧ opcodeMap op = some row ∧
    ∀ rest, row.parse op (operands ++ rest) = .instr i rest

theorem EncodingLength.ldaImmediate (imm8 : Byte) : EncodingLength.Statement (.ldaImmediate imm8) := rfl
theorem EncodingLength.ldaZeroPage (zp8 : Byte) : EncodingLength.Statement (.ldaZeroPage zp8) := rfl
theorem EncodingLength.ldaZeroPageX (zp8 : Byte) : EncodingLength.Statement (.ldaZeroPageX zp8) := rfl
theorem EncodingLength.ldaAbsolute (addr16 : Word) : EncodingLength.Statement (.ldaAbsolute addr16) := rfl
theorem EncodingLength.ldaAbsoluteX (addr16 : Word) : EncodingLength.Statement (.ldaAbsoluteX addr16) := rfl
theorem EncodingLength.ldaAbsoluteY (addr16 : Word) : EncodingLength.Statement (.ldaAbsoluteY addr16) := rfl
theorem EncodingLength.ldaIndirectX (zp8 : Byte) : EncodingLength.Statement (.ldaIndirectX zp8) := rfl
theorem EncodingLength.ldaIndirectY (zp8 : Byte) : EncodingLength.Statement (.ldaIndirectY zp8) := rfl
theorem EncodingLength.ldxImmediate (imm8 : Byte) : EncodingLength.Statement (.ldxImmediate imm8) := rfl
theorem EncodingLength.ldxZeroPage (zp8 : Byte) : EncodingLength.Statement (.ldxZeroPage zp8) := rfl
theorem EncodingLength.ldxZeroPageY (zp8 : Byte) : EncodingLength.Statement (.ldxZeroPageY zp8) := rfl
theorem EncodingLength.ldxAbsolute (addr16 : Word) : EncodingLength.Statement (.ldxAbsolute addr16) := rfl
theorem EncodingLength.ldxAbsoluteY (addr16 : Word) : EncodingLength.Statement (.ldxAbsoluteY addr16) := rfl
theorem EncodingLength.ldyImmediate (imm8 : Byte) : EncodingLength.Statement (.ldyImmediate imm8) := rfl
theorem EncodingLength.ldyZeroPage (zp8 : Byte) : EncodingLength.Statement (.ldyZeroPage zp8) := rfl
theorem EncodingLength.ldyZeroPageX (zp8 : Byte) : EncodingLength.Statement (.ldyZeroPageX zp8) := rfl
theorem EncodingLength.ldyAbsolute (addr16 : Word) : EncodingLength.Statement (.ldyAbsolute addr16) := rfl
theorem EncodingLength.ldyAbsoluteX (addr16 : Word) : EncodingLength.Statement (.ldyAbsoluteX addr16) := rfl
theorem EncodingLength.staZeroPage (zp8 : Byte) : EncodingLength.Statement (.staZeroPage zp8) := rfl
theorem EncodingLength.staZeroPageX (zp8 : Byte) : EncodingLength.Statement (.staZeroPageX zp8) := rfl
theorem EncodingLength.staAbsolute (addr16 : Word) : EncodingLength.Statement (.staAbsolute addr16) := rfl
theorem EncodingLength.staAbsoluteX (addr16 : Word) : EncodingLength.Statement (.staAbsoluteX addr16) := rfl
theorem EncodingLength.staAbsoluteY (addr16 : Word) : EncodingLength.Statement (.staAbsoluteY addr16) := rfl
theorem EncodingLength.staIndirectX (zp8 : Byte) : EncodingLength.Statement (.staIndirectX zp8) := rfl
theorem EncodingLength.staIndirectY (zp8 : Byte) : EncodingLength.Statement (.staIndirectY zp8) := rfl
theorem EncodingLength.stxZeroPage (zp8 : Byte) : EncodingLength.Statement (.stxZeroPage zp8) := rfl
theorem EncodingLength.stxZeroPageY (zp8 : Byte) : EncodingLength.Statement (.stxZeroPageY zp8) := rfl
theorem EncodingLength.stxAbsolute (addr16 : Word) : EncodingLength.Statement (.stxAbsolute addr16) := rfl
theorem EncodingLength.styZeroPage (zp8 : Byte) : EncodingLength.Statement (.styZeroPage zp8) := rfl
theorem EncodingLength.styZeroPageX (zp8 : Byte) : EncodingLength.Statement (.styZeroPageX zp8) := rfl
theorem EncodingLength.styAbsolute (addr16 : Word) : EncodingLength.Statement (.styAbsolute addr16) := rfl
theorem EncodingLength.adcImmediate (imm8 : Byte) : EncodingLength.Statement (.adcImmediate imm8) := rfl
theorem EncodingLength.adcZeroPage (zp8 : Byte) : EncodingLength.Statement (.adcZeroPage zp8) := rfl
theorem EncodingLength.adcZeroPageX (zp8 : Byte) : EncodingLength.Statement (.adcZeroPageX zp8) := rfl
theorem EncodingLength.adcAbsolute (addr16 : Word) : EncodingLength.Statement (.adcAbsolute addr16) := rfl
theorem EncodingLength.adcAbsoluteX (addr16 : Word) : EncodingLength.Statement (.adcAbsoluteX addr16) := rfl
theorem EncodingLength.adcAbsoluteY (addr16 : Word) : EncodingLength.Statement (.adcAbsoluteY addr16) := rfl
theorem EncodingLength.adcIndirectX (zp8 : Byte) : EncodingLength.Statement (.adcIndirectX zp8) := rfl
theorem EncodingLength.adcIndirectY (zp8 : Byte) : EncodingLength.Statement (.adcIndirectY zp8) := rfl
theorem EncodingLength.sbcImmediate (imm8 : Byte) : EncodingLength.Statement (.sbcImmediate imm8) := rfl
theorem EncodingLength.sbcZeroPage (zp8 : Byte) : EncodingLength.Statement (.sbcZeroPage zp8) := rfl
theorem EncodingLength.sbcZeroPageX (zp8 : Byte) : EncodingLength.Statement (.sbcZeroPageX zp8) := rfl
theorem EncodingLength.sbcAbsolute (addr16 : Word) : EncodingLength.Statement (.sbcAbsolute addr16) := rfl
theorem EncodingLength.sbcAbsoluteX (addr16 : Word) : EncodingLength.Statement (.sbcAbsoluteX addr16) := rfl
theorem EncodingLength.sbcAbsoluteY (addr16 : Word) : EncodingLength.Statement (.sbcAbsoluteY addr16) := rfl
theorem EncodingLength.sbcIndirectX (zp8 : Byte) : EncodingLength.Statement (.sbcIndirectX zp8) := rfl
theorem EncodingLength.sbcIndirectY (zp8 : Byte) : EncodingLength.Statement (.sbcIndirectY zp8) := rfl
theorem EncodingLength.incZeroPage (zp8 : Byte) : EncodingLength.Statement (.incZeroPage zp8) := rfl
theorem EncodingLength.incZeroPageX (zp8 : Byte) : EncodingLength.Statement (.incZeroPageX zp8) := rfl
theorem EncodingLength.incAbsolute (addr16 : Word) : EncodingLength.Statement (.incAbsolute addr16) := rfl
theorem EncodingLength.incAbsoluteX (addr16 : Word) : EncodingLength.Statement (.incAbsoluteX addr16) := rfl
theorem EncodingLength.decZeroPage (zp8 : Byte) : EncodingLength.Statement (.decZeroPage zp8) := rfl
theorem EncodingLength.decZeroPageX (zp8 : Byte) : EncodingLength.Statement (.decZeroPageX zp8) := rfl
theorem EncodingLength.decAbsolute (addr16 : Word) : EncodingLength.Statement (.decAbsolute addr16) := rfl
theorem EncodingLength.decAbsoluteX (addr16 : Word) : EncodingLength.Statement (.decAbsoluteX addr16) := rfl
theorem EncodingLength.inx : EncodingLength.Statement .inx := rfl
theorem EncodingLength.iny : EncodingLength.Statement .iny := rfl
theorem EncodingLength.dex : EncodingLength.Statement .dex := rfl
theorem EncodingLength.dey : EncodingLength.Statement .dey := rfl
theorem EncodingLength.aslAccumulator : EncodingLength.Statement .aslAccumulator := rfl
theorem EncodingLength.aslZeroPage (zp8 : Byte) : EncodingLength.Statement (.aslZeroPage zp8) := rfl
theorem EncodingLength.aslZeroPageX (zp8 : Byte) : EncodingLength.Statement (.aslZeroPageX zp8) := rfl
theorem EncodingLength.aslAbsolute (addr16 : Word) : EncodingLength.Statement (.aslAbsolute addr16) := rfl
theorem EncodingLength.aslAbsoluteX (addr16 : Word) : EncodingLength.Statement (.aslAbsoluteX addr16) := rfl
theorem EncodingLength.lsrAccumulator : EncodingLength.Statement .lsrAccumulator := rfl
theorem EncodingLength.lsrZeroPage (zp8 : Byte) : EncodingLength.Statement (.lsrZeroPage zp8) := rfl
theorem EncodingLength.lsrZeroPageX (zp8 : Byte) : EncodingLength.Statement (.lsrZeroPageX zp8) := rfl
theorem EncodingLength.lsrAbsolute (addr16 : Word) : EncodingLength.Statement (.lsrAbsolute addr16) := rfl
theorem EncodingLength.lsrAbsoluteX (addr16 : Word) : EncodingLength.Statement (.lsrAbsoluteX addr16) := rfl
theorem EncodingLength.rolAccumulator : EncodingLength.Statement .rolAccumulator := rfl
theorem EncodingLength.rolZeroPage (zp8 : Byte) : EncodingLength.Statement (.rolZeroPage zp8) := rfl
theorem EncodingLength.rolZeroPageX (zp8 : Byte) : EncodingLength.Statement (.rolZeroPageX zp8) := rfl
theorem EncodingLength.rolAbsolute (addr16 : Word) : EncodingLength.Statement (.rolAbsolute addr16) := rfl
theorem EncodingLength.rolAbsoluteX (addr16 : Word) : EncodingLength.Statement (.rolAbsoluteX addr16) := rfl
theorem EncodingLength.rorAccumulator : EncodingLength.Statement .rorAccumulator := rfl
theorem EncodingLength.rorZeroPage (zp8 : Byte) : EncodingLength.Statement (.rorZeroPage zp8) := rfl
theorem EncodingLength.rorZeroPageX (zp8 : Byte) : EncodingLength.Statement (.rorZeroPageX zp8) := rfl
theorem EncodingLength.rorAbsolute (addr16 : Word) : EncodingLength.Statement (.rorAbsolute addr16) := rfl
theorem EncodingLength.rorAbsoluteX (addr16 : Word) : EncodingLength.Statement (.rorAbsoluteX addr16) := rfl
theorem EncodingLength.andImmediate (imm8 : Byte) : EncodingLength.Statement (.andImmediate imm8) := rfl
theorem EncodingLength.andZeroPage (zp8 : Byte) : EncodingLength.Statement (.andZeroPage zp8) := rfl
theorem EncodingLength.andZeroPageX (zp8 : Byte) : EncodingLength.Statement (.andZeroPageX zp8) := rfl
theorem EncodingLength.andAbsolute (addr16 : Word) : EncodingLength.Statement (.andAbsolute addr16) := rfl
theorem EncodingLength.andAbsoluteX (addr16 : Word) : EncodingLength.Statement (.andAbsoluteX addr16) := rfl
theorem EncodingLength.andAbsoluteY (addr16 : Word) : EncodingLength.Statement (.andAbsoluteY addr16) := rfl
theorem EncodingLength.andIndirectX (zp8 : Byte) : EncodingLength.Statement (.andIndirectX zp8) := rfl
theorem EncodingLength.andIndirectY (zp8 : Byte) : EncodingLength.Statement (.andIndirectY zp8) := rfl
theorem EncodingLength.oraImmediate (imm8 : Byte) : EncodingLength.Statement (.oraImmediate imm8) := rfl
theorem EncodingLength.oraZeroPage (zp8 : Byte) : EncodingLength.Statement (.oraZeroPage zp8) := rfl
theorem EncodingLength.oraZeroPageX (zp8 : Byte) : EncodingLength.Statement (.oraZeroPageX zp8) := rfl
theorem EncodingLength.oraAbsolute (addr16 : Word) : EncodingLength.Statement (.oraAbsolute addr16) := rfl
theorem EncodingLength.oraAbsoluteX (addr16 : Word) : EncodingLength.Statement (.oraAbsoluteX addr16) := rfl
theorem EncodingLength.oraAbsoluteY (addr16 : Word) : EncodingLength.Statement (.oraAbsoluteY addr16) := rfl
theorem EncodingLength.oraIndirectX (zp8 : Byte) : EncodingLength.Statement (.oraIndirectX zp8) := rfl
theorem EncodingLength.oraIndirectY (zp8 : Byte) : EncodingLength.Statement (.oraIndirectY zp8) := rfl
theorem EncodingLength.eorImmediate (imm8 : Byte) : EncodingLength.Statement (.eorImmediate imm8) := rfl
theorem EncodingLength.eorZeroPage (zp8 : Byte) : EncodingLength.Statement (.eorZeroPage zp8) := rfl
theorem EncodingLength.eorZeroPageX (zp8 : Byte) : EncodingLength.Statement (.eorZeroPageX zp8) := rfl
theorem EncodingLength.eorAbsolute (addr16 : Word) : EncodingLength.Statement (.eorAbsolute addr16) := rfl
theorem EncodingLength.eorAbsoluteX (addr16 : Word) : EncodingLength.Statement (.eorAbsoluteX addr16) := rfl
theorem EncodingLength.eorAbsoluteY (addr16 : Word) : EncodingLength.Statement (.eorAbsoluteY addr16) := rfl
theorem EncodingLength.eorIndirectX (zp8 : Byte) : EncodingLength.Statement (.eorIndirectX zp8) := rfl
theorem EncodingLength.eorIndirectY (zp8 : Byte) : EncodingLength.Statement (.eorIndirectY zp8) := rfl
theorem EncodingLength.bitZeroPage (zp8 : Byte) : EncodingLength.Statement (.bitZeroPage zp8) := rfl
theorem EncodingLength.bitAbsolute (addr16 : Word) : EncodingLength.Statement (.bitAbsolute addr16) := rfl
theorem EncodingLength.cmpImmediate (imm8 : Byte) : EncodingLength.Statement (.cmpImmediate imm8) := rfl
theorem EncodingLength.cmpZeroPage (zp8 : Byte) : EncodingLength.Statement (.cmpZeroPage zp8) := rfl
theorem EncodingLength.cmpZeroPageX (zp8 : Byte) : EncodingLength.Statement (.cmpZeroPageX zp8) := rfl
theorem EncodingLength.cmpAbsolute (addr16 : Word) : EncodingLength.Statement (.cmpAbsolute addr16) := rfl
theorem EncodingLength.cmpAbsoluteX (addr16 : Word) : EncodingLength.Statement (.cmpAbsoluteX addr16) := rfl
theorem EncodingLength.cmpAbsoluteY (addr16 : Word) : EncodingLength.Statement (.cmpAbsoluteY addr16) := rfl
theorem EncodingLength.cmpIndirectX (zp8 : Byte) : EncodingLength.Statement (.cmpIndirectX zp8) := rfl
theorem EncodingLength.cmpIndirectY (zp8 : Byte) : EncodingLength.Statement (.cmpIndirectY zp8) := rfl
theorem EncodingLength.cpxImmediate (imm8 : Byte) : EncodingLength.Statement (.cpxImmediate imm8) := rfl
theorem EncodingLength.cpxZeroPage (zp8 : Byte) : EncodingLength.Statement (.cpxZeroPage zp8) := rfl
theorem EncodingLength.cpxAbsolute (addr16 : Word) : EncodingLength.Statement (.cpxAbsolute addr16) := rfl
theorem EncodingLength.cpyImmediate (imm8 : Byte) : EncodingLength.Statement (.cpyImmediate imm8) := rfl
theorem EncodingLength.cpyZeroPage (zp8 : Byte) : EncodingLength.Statement (.cpyZeroPage zp8) := rfl
theorem EncodingLength.cpyAbsolute (addr16 : Word) : EncodingLength.Statement (.cpyAbsolute addr16) := rfl
theorem EncodingLength.bcc (disp8 : Byte) : EncodingLength.Statement (.bcc disp8) := rfl
theorem EncodingLength.bcs (disp8 : Byte) : EncodingLength.Statement (.bcs disp8) := rfl
theorem EncodingLength.beq (disp8 : Byte) : EncodingLength.Statement (.beq disp8) := rfl
theorem EncodingLength.bne (disp8 : Byte) : EncodingLength.Statement (.bne disp8) := rfl
theorem EncodingLength.bmi (disp8 : Byte) : EncodingLength.Statement (.bmi disp8) := rfl
theorem EncodingLength.bpl (disp8 : Byte) : EncodingLength.Statement (.bpl disp8) := rfl
theorem EncodingLength.bvc (disp8 : Byte) : EncodingLength.Statement (.bvc disp8) := rfl
theorem EncodingLength.bvs (disp8 : Byte) : EncodingLength.Statement (.bvs disp8) := rfl
theorem EncodingLength.jmpAbsolute (addr16 : Word) : EncodingLength.Statement (.jmpAbsolute addr16) := rfl
theorem EncodingLength.jmpIndirect (addr16 : Word) : EncodingLength.Statement (.jmpIndirect addr16) := rfl
theorem EncodingLength.jsr (addr16 : Word) : EncodingLength.Statement (.jsr addr16) := rfl
theorem EncodingLength.rts : EncodingLength.Statement .rts := rfl
theorem EncodingLength.brk : EncodingLength.Statement .brk := rfl
theorem EncodingLength.rti : EncodingLength.Statement .rti := rfl
theorem EncodingLength.pha : EncodingLength.Statement .pha := rfl
theorem EncodingLength.pla : EncodingLength.Statement .pla := rfl
theorem EncodingLength.php : EncodingLength.Statement .php := rfl
theorem EncodingLength.plp : EncodingLength.Statement .plp := rfl
theorem EncodingLength.clc : EncodingLength.Statement .clc := rfl
theorem EncodingLength.sec : EncodingLength.Statement .sec := rfl
theorem EncodingLength.cli : EncodingLength.Statement .cli := rfl
theorem EncodingLength.sei : EncodingLength.Statement .sei := rfl
theorem EncodingLength.cld : EncodingLength.Statement .cld := rfl
theorem EncodingLength.sed : EncodingLength.Statement .sed := rfl
theorem EncodingLength.clv : EncodingLength.Statement .clv := rfl
theorem EncodingLength.tax : EncodingLength.Statement .tax := rfl
theorem EncodingLength.txa : EncodingLength.Statement .txa := rfl
theorem EncodingLength.tay : EncodingLength.Statement .tay := rfl
theorem EncodingLength.tya : EncodingLength.Statement .tya := rfl
theorem EncodingLength.tsx : EncodingLength.Statement .tsx := rfl
theorem EncodingLength.txs : EncodingLength.Statement .txs := rfl
theorem EncodingLength.nop : EncodingLength.Statement .nop := rfl

theorem DispatchRow.ldaImmediate (imm8 : Byte) : DispatchRow.Statement (.ldaImmediate imm8) :=
  ⟨0xA9, [imm8], .f2 .ldaImmediate, rfl, rfl, fun _ => rfl⟩
theorem DispatchRow.ldaZeroPage (zp8 : Byte) : DispatchRow.Statement (.ldaZeroPage zp8) :=
  ⟨0xA5, [zp8], .f2 .ldaZeroPage, rfl, rfl, fun _ => rfl⟩
theorem DispatchRow.ldaZeroPageX (zp8 : Byte) : DispatchRow.Statement (.ldaZeroPageX zp8) :=
  ⟨0xB5, [zp8], .f2 .ldaZeroPageX, rfl, rfl, fun _ => rfl⟩
theorem DispatchRow.ldaAbsolute (addr16 : Word) : DispatchRow.Statement (.ldaAbsolute addr16) :=
  ⟨0xAD, [_, _], .f3 .ldaAbsolute, rfl, rfl, fun rest => congrArg (Decoded.instr · rest) (congrArg Instr.ldaAbsolute (wordOf_hi_lo addr16))⟩
theorem DispatchRow.ldaAbsoluteX (addr16 : Word) : DispatchRow.Statement (.ldaAbsoluteX addr16) :=
  ⟨0xBD, [_, _], .f3 .ldaAbsoluteX, rfl, rfl, fun rest => congrArg (Decoded.instr · rest) (congrArg Instr.ldaAbsoluteX (wordOf_hi_lo addr16))⟩
theorem DispatchRow.ldaAbsoluteY (addr16 : Word) : DispatchRow.Statement (.ldaAbsoluteY addr16) :=
  ⟨0xB9, [_, _], .f3 .ldaAbsoluteY, rfl, rfl, fun rest => congrArg (Decoded.instr · rest) (congrArg Instr.ldaAbsoluteY (wordOf_hi_lo addr16))⟩
theorem DispatchRow.ldaIndirectX (zp8 : Byte) : DispatchRow.Statement (.ldaIndirectX zp8) :=
  ⟨0xA1, [zp8], .f2 .ldaIndirectX, rfl, rfl, fun _ => rfl⟩
theorem DispatchRow.ldaIndirectY (zp8 : Byte) : DispatchRow.Statement (.ldaIndirectY zp8) :=
  ⟨0xB1, [zp8], .f2 .ldaIndirectY, rfl, rfl, fun _ => rfl⟩
theorem DispatchRow.ldxImmediate (imm8 : Byte) : DispatchRow.Statement (.ldxImmediate imm8) :=
  ⟨0xA2, [imm8], .f2 .ldxImmediate, rfl, rfl, fun _ => rfl⟩
theorem DispatchRow.ldxZeroPage (zp8 : Byte) : DispatchRow.Statement (.ldxZeroPage zp8) :=
  ⟨0xA6, [zp8], .f2 .ldxZeroPage, rfl, rfl, fun _ => rfl⟩
theorem DispatchRow.ldxZeroPageY (zp8 : Byte) : DispatchRow.Statement (.ldxZeroPageY zp8) :=
  ⟨0xB6, [zp8], .f2 .ldxZeroPageY, rfl, rfl, fun _ => rfl⟩
theorem DispatchRow.ldxAbsolute (addr16 : Word) : DispatchRow.Statement (.ldxAbsolute addr16) :=
  ⟨0xAE, [_, _], .f3 .ldxAbsolute, rfl, rfl, fun rest => congrArg (Decoded.instr · rest) (congrArg Instr.ldxAbsolute (wordOf_hi_lo addr16))⟩
theorem DispatchRow.ldxAbsoluteY (addr16 : Word) : DispatchRow.Statement (.ldxAbsoluteY addr16) :=
  ⟨0xBE, [_, _], .f3 .ldxAbsoluteY, rfl, rfl, fun rest => congrArg (Decoded.instr · rest) (congrArg Instr.ldxAbsoluteY (wordOf_hi_lo addr16))⟩
theorem DispatchRow.ldyImmediate (imm8 : Byte) : DispatchRow.Statement (.ldyImmediate imm8) :=
  ⟨0xA0, [imm8], .f2 .ldyImmediate, rfl, rfl, fun _ => rfl⟩
theorem DispatchRow.ldyZeroPage (zp8 : Byte) : DispatchRow.Statement (.ldyZeroPage zp8) :=
  ⟨0xA4, [zp8], .f2 .ldyZeroPage, rfl, rfl, fun _ => rfl⟩
theorem DispatchRow.ldyZeroPageX (zp8 : Byte) : DispatchRow.Statement (.ldyZeroPageX zp8) :=
  ⟨0xB4, [zp8], .f2 .ldyZeroPageX, rfl, rfl, fun _ => rfl⟩
theorem DispatchRow.ldyAbsolute (addr16 : Word) : DispatchRow.Statement (.ldyAbsolute addr16) :=
  ⟨0xAC, [_, _], .f3 .ldyAbsolute, rfl, rfl, fun rest => congrArg (Decoded.instr · rest) (congrArg Instr.ldyAbsolute (wordOf_hi_lo addr16))⟩
theorem DispatchRow.ldyAbsoluteX (addr16 : Word) : DispatchRow.Statement (.ldyAbsoluteX addr16) :=
  ⟨0xBC, [_, _], .f3 .ldyAbsoluteX, rfl, rfl, fun rest => congrArg (Decoded.instr · rest) (congrArg Instr.ldyAbsoluteX (wordOf_hi_lo addr16))⟩
theorem DispatchRow.staZeroPage (zp8 : Byte) : DispatchRow.Statement (.staZeroPage zp8) :=
  ⟨0x85, [zp8], .f2 .staZeroPage, rfl, rfl, fun _ => rfl⟩
theorem DispatchRow.staZeroPageX (zp8 : Byte) : DispatchRow.Statement (.staZeroPageX zp8) :=
  ⟨0x95, [zp8], .f2 .staZeroPageX, rfl, rfl, fun _ => rfl⟩
theorem DispatchRow.staAbsolute (addr16 : Word) : DispatchRow.Statement (.staAbsolute addr16) :=
  ⟨0x8D, [_, _], .f3 .staAbsolute, rfl, rfl, fun rest => congrArg (Decoded.instr · rest) (congrArg Instr.staAbsolute (wordOf_hi_lo addr16))⟩
theorem DispatchRow.staAbsoluteX (addr16 : Word) : DispatchRow.Statement (.staAbsoluteX addr16) :=
  ⟨0x9D, [_, _], .f3 .staAbsoluteX, rfl, rfl, fun rest => congrArg (Decoded.instr · rest) (congrArg Instr.staAbsoluteX (wordOf_hi_lo addr16))⟩
theorem DispatchRow.staAbsoluteY (addr16 : Word) : DispatchRow.Statement (.staAbsoluteY addr16) :=
  ⟨0x99, [_, _], .f3 .staAbsoluteY, rfl, rfl, fun rest => congrArg (Decoded.instr · rest) (congrArg Instr.staAbsoluteY (wordOf_hi_lo addr16))⟩
theorem DispatchRow.staIndirectX (zp8 : Byte) : DispatchRow.Statement (.staIndirectX zp8) :=
  ⟨0x81, [zp8], .f2 .staIndirectX, rfl, rfl, fun _ => rfl⟩
theorem DispatchRow.staIndirectY (zp8 : Byte) : DispatchRow.Statement (.staIndirectY zp8) :=
  ⟨0x91, [zp8], .f2 .staIndirectY, rfl, rfl, fun _ => rfl⟩
theorem DispatchRow.stxZeroPage (zp8 : Byte) : DispatchRow.Statement (.stxZeroPage zp8) :=
  ⟨0x86, [zp8], .f2 .stxZeroPage, rfl, rfl, fun _ => rfl⟩
theorem DispatchRow.stxZeroPageY (zp8 : Byte) : DispatchRow.Statement (.stxZeroPageY zp8) :=
  ⟨0x96, [zp8], .f2 .stxZeroPageY, rfl, rfl, fun _ => rfl⟩
theorem DispatchRow.stxAbsolute (addr16 : Word) : DispatchRow.Statement (.stxAbsolute addr16) :=
  ⟨0x8E, [_, _], .f3 .stxAbsolute, rfl, rfl, fun rest => congrArg (Decoded.instr · rest) (congrArg Instr.stxAbsolute (wordOf_hi_lo addr16))⟩
theorem DispatchRow.styZeroPage (zp8 : Byte) : DispatchRow.Statement (.styZeroPage zp8) :=
  ⟨0x84, [zp8], .f2 .styZeroPage, rfl, rfl, fun _ => rfl⟩
theorem DispatchRow.styZeroPageX (zp8 : Byte) : DispatchRow.Statement (.styZeroPageX zp8) :=
  ⟨0x94, [zp8], .f2 .styZeroPageX, rfl, rfl, fun _ => rfl⟩
theorem DispatchRow.styAbsolute (addr16 : Word) : DispatchRow.Statement (.styAbsolute addr16) :=
  ⟨0x8C, [_, _], .f3 .styAbsolute, rfl, rfl, fun rest => congrArg (Decoded.instr · rest) (congrArg Instr.styAbsolute (wordOf_hi_lo addr16))⟩
theorem DispatchRow.adcImmediate (imm8 : Byte) : DispatchRow.Statement (.adcImmediate imm8) :=
  ⟨0x69, [imm8], .f2 .adcImmediate, rfl, rfl, fun _ => rfl⟩
theorem DispatchRow.adcZeroPage (zp8 : Byte) : DispatchRow.Statement (.adcZeroPage zp8) :=
  ⟨0x65, [zp8], .f2 .adcZeroPage, rfl, rfl, fun _ => rfl⟩
theorem DispatchRow.adcZeroPageX (zp8 : Byte) : DispatchRow.Statement (.adcZeroPageX zp8) :=
  ⟨0x75, [zp8], .f2 .adcZeroPageX, rfl, rfl, fun _ => rfl⟩
theorem DispatchRow.adcAbsolute (addr16 : Word) : DispatchRow.Statement (.adcAbsolute addr16) :=
  ⟨0x6D, [_, _], .f3 .adcAbsolute, rfl, rfl, fun rest => congrArg (Decoded.instr · rest) (congrArg Instr.adcAbsolute (wordOf_hi_lo addr16))⟩
theorem DispatchRow.adcAbsoluteX (addr16 : Word) : DispatchRow.Statement (.adcAbsoluteX addr16) :=
  ⟨0x7D, [_, _], .f3 .adcAbsoluteX, rfl, rfl, fun rest => congrArg (Decoded.instr · rest) (congrArg Instr.adcAbsoluteX (wordOf_hi_lo addr16))⟩
theorem DispatchRow.adcAbsoluteY (addr16 : Word) : DispatchRow.Statement (.adcAbsoluteY addr16) :=
  ⟨0x79, [_, _], .f3 .adcAbsoluteY, rfl, rfl, fun rest => congrArg (Decoded.instr · rest) (congrArg Instr.adcAbsoluteY (wordOf_hi_lo addr16))⟩
theorem DispatchRow.adcIndirectX (zp8 : Byte) : DispatchRow.Statement (.adcIndirectX zp8) :=
  ⟨0x61, [zp8], .f2 .adcIndirectX, rfl, rfl, fun _ => rfl⟩
theorem DispatchRow.adcIndirectY (zp8 : Byte) : DispatchRow.Statement (.adcIndirectY zp8) :=
  ⟨0x71, [zp8], .f2 .adcIndirectY, rfl, rfl, fun _ => rfl⟩
theorem DispatchRow.sbcImmediate (imm8 : Byte) : DispatchRow.Statement (.sbcImmediate imm8) :=
  ⟨0xE9, [imm8], .f2 .sbcImmediate, rfl, rfl, fun _ => rfl⟩
theorem DispatchRow.sbcZeroPage (zp8 : Byte) : DispatchRow.Statement (.sbcZeroPage zp8) :=
  ⟨0xE5, [zp8], .f2 .sbcZeroPage, rfl, rfl, fun _ => rfl⟩
theorem DispatchRow.sbcZeroPageX (zp8 : Byte) : DispatchRow.Statement (.sbcZeroPageX zp8) :=
  ⟨0xF5, [zp8], .f2 .sbcZeroPageX, rfl, rfl, fun _ => rfl⟩
theorem DispatchRow.sbcAbsolute (addr16 : Word) : DispatchRow.Statement (.sbcAbsolute addr16) :=
  ⟨0xED, [_, _], .f3 .sbcAbsolute, rfl, rfl, fun rest => congrArg (Decoded.instr · rest) (congrArg Instr.sbcAbsolute (wordOf_hi_lo addr16))⟩
theorem DispatchRow.sbcAbsoluteX (addr16 : Word) : DispatchRow.Statement (.sbcAbsoluteX addr16) :=
  ⟨0xFD, [_, _], .f3 .sbcAbsoluteX, rfl, rfl, fun rest => congrArg (Decoded.instr · rest) (congrArg Instr.sbcAbsoluteX (wordOf_hi_lo addr16))⟩
theorem DispatchRow.sbcAbsoluteY (addr16 : Word) : DispatchRow.Statement (.sbcAbsoluteY addr16) :=
  ⟨0xF9, [_, _], .f3 .sbcAbsoluteY, rfl, rfl, fun rest => congrArg (Decoded.instr · rest) (congrArg Instr.sbcAbsoluteY (wordOf_hi_lo addr16))⟩
theorem DispatchRow.sbcIndirectX (zp8 : Byte) : DispatchRow.Statement (.sbcIndirectX zp8) :=
  ⟨0xE1, [zp8], .f2 .sbcIndirectX, rfl, rfl, fun _ => rfl⟩
theorem DispatchRow.sbcIndirectY (zp8 : Byte) : DispatchRow.Statement (.sbcIndirectY zp8) :=
  ⟨0xF1, [zp8], .f2 .sbcIndirectY, rfl, rfl, fun _ => rfl⟩
theorem DispatchRow.incZeroPage (zp8 : Byte) : DispatchRow.Statement (.incZeroPage zp8) :=
  ⟨0xE6, [zp8], .f2 .incZeroPage, rfl, rfl, fun _ => rfl⟩
theorem DispatchRow.incZeroPageX (zp8 : Byte) : DispatchRow.Statement (.incZeroPageX zp8) :=
  ⟨0xF6, [zp8], .f2 .incZeroPageX, rfl, rfl, fun _ => rfl⟩
theorem DispatchRow.incAbsolute (addr16 : Word) : DispatchRow.Statement (.incAbsolute addr16) :=
  ⟨0xEE, [_, _], .f3 .incAbsolute, rfl, rfl, fun rest => congrArg (Decoded.instr · rest) (congrArg Instr.incAbsolute (wordOf_hi_lo addr16))⟩
theorem DispatchRow.incAbsoluteX (addr16 : Word) : DispatchRow.Statement (.incAbsoluteX addr16) :=
  ⟨0xFE, [_, _], .f3 .incAbsoluteX, rfl, rfl, fun rest => congrArg (Decoded.instr · rest) (congrArg Instr.incAbsoluteX (wordOf_hi_lo addr16))⟩
theorem DispatchRow.decZeroPage (zp8 : Byte) : DispatchRow.Statement (.decZeroPage zp8) :=
  ⟨0xC6, [zp8], .f2 .decZeroPage, rfl, rfl, fun _ => rfl⟩
theorem DispatchRow.decZeroPageX (zp8 : Byte) : DispatchRow.Statement (.decZeroPageX zp8) :=
  ⟨0xD6, [zp8], .f2 .decZeroPageX, rfl, rfl, fun _ => rfl⟩
theorem DispatchRow.decAbsolute (addr16 : Word) : DispatchRow.Statement (.decAbsolute addr16) :=
  ⟨0xCE, [_, _], .f3 .decAbsolute, rfl, rfl, fun rest => congrArg (Decoded.instr · rest) (congrArg Instr.decAbsolute (wordOf_hi_lo addr16))⟩
theorem DispatchRow.decAbsoluteX (addr16 : Word) : DispatchRow.Statement (.decAbsoluteX addr16) :=
  ⟨0xDE, [_, _], .f3 .decAbsoluteX, rfl, rfl, fun rest => congrArg (Decoded.instr · rest) (congrArg Instr.decAbsoluteX (wordOf_hi_lo addr16))⟩
theorem DispatchRow.inx : DispatchRow.Statement .inx :=
  ⟨0xE8, [], .f1 .inx, rfl, rfl, fun _ => rfl⟩
theorem DispatchRow.iny : DispatchRow.Statement .iny :=
  ⟨0xC8, [], .f1 .iny, rfl, rfl, fun _ => rfl⟩
theorem DispatchRow.dex : DispatchRow.Statement .dex :=
  ⟨0xCA, [], .f1 .dex, rfl, rfl, fun _ => rfl⟩
theorem DispatchRow.dey : DispatchRow.Statement .dey :=
  ⟨0x88, [], .f1 .dey, rfl, rfl, fun _ => rfl⟩
theorem DispatchRow.aslAccumulator : DispatchRow.Statement .aslAccumulator :=
  ⟨0x0A, [], .f1 .aslAccumulator, rfl, rfl, fun _ => rfl⟩
theorem DispatchRow.aslZeroPage (zp8 : Byte) : DispatchRow.Statement (.aslZeroPage zp8) :=
  ⟨0x06, [zp8], .f2 .aslZeroPage, rfl, rfl, fun _ => rfl⟩
theorem DispatchRow.aslZeroPageX (zp8 : Byte) : DispatchRow.Statement (.aslZeroPageX zp8) :=
  ⟨0x16, [zp8], .f2 .aslZeroPageX, rfl, rfl, fun _ => rfl⟩
theorem DispatchRow.aslAbsolute (addr16 : Word) : DispatchRow.Statement (.aslAbsolute addr16) :=
  ⟨0x0E, [_, _], .f3 .aslAbsolute, rfl, rfl, fun rest => congrArg (Decoded.instr · rest) (congrArg Instr.aslAbsolute (wordOf_hi_lo addr16))⟩
theorem DispatchRow.aslAbsoluteX (addr16 : Word) : DispatchRow.Statement (.aslAbsoluteX addr16) :=
  ⟨0x1E, [_, _], .f3 .aslAbsoluteX, rfl, rfl, fun rest => congrArg (Decoded.instr · rest) (congrArg Instr.aslAbsoluteX (wordOf_hi_lo addr16))⟩
theorem DispatchRow.lsrAccumulator : DispatchRow.Statement .lsrAccumulator :=
  ⟨0x4A, [], .f1 .lsrAccumulator, rfl, rfl, fun _ => rfl⟩
theorem DispatchRow.lsrZeroPage (zp8 : Byte) : DispatchRow.Statement (.lsrZeroPage zp8) :=
  ⟨0x46, [zp8], .f2 .lsrZeroPage, rfl, rfl, fun _ => rfl⟩
theorem DispatchRow.lsrZeroPageX (zp8 : Byte) : DispatchRow.Statement (.lsrZeroPageX zp8) :=
  ⟨0x56, [zp8], .f2 .lsrZeroPageX, rfl, rfl, fun _ => rfl⟩
theorem DispatchRow.lsrAbsolute (addr16 : Word) : DispatchRow.Statement (.lsrAbsolute addr16) :=
  ⟨0x4E, [_, _], .f3 .lsrAbsolute, rfl, rfl, fun rest => congrArg (Decoded.instr · rest) (congrArg Instr.lsrAbsolute (wordOf_hi_lo addr16))⟩
theorem DispatchRow.lsrAbsoluteX (addr16 : Word) : DispatchRow.Statement (.lsrAbsoluteX addr16) :=
  ⟨0x5E, [_, _], .f3 .lsrAbsoluteX, rfl, rfl, fun rest => congrArg (Decoded.instr · rest) (congrArg Instr.lsrAbsoluteX (wordOf_hi_lo addr16))⟩
theorem DispatchRow.rolAccumulator : DispatchRow.Statement .rolAccumulator :=
  ⟨0x2A, [], .f1 .rolAccumulator, rfl, rfl, fun _ => rfl⟩
theorem DispatchRow.rolZeroPage (zp8 : Byte) : DispatchRow.Statement (.rolZeroPage zp8) :=
  ⟨0x26, [zp8], .f2 .rolZeroPage, rfl, rfl, fun _ => rfl⟩
theorem DispatchRow.rolZeroPageX (zp8 : Byte) : DispatchRow.Statement (.rolZeroPageX zp8) :=
  ⟨0x36, [zp8], .f2 .rolZeroPageX, rfl, rfl, fun _ => rfl⟩
theorem DispatchRow.rolAbsolute (addr16 : Word) : DispatchRow.Statement (.rolAbsolute addr16) :=
  ⟨0x2E, [_, _], .f3 .rolAbsolute, rfl, rfl, fun rest => congrArg (Decoded.instr · rest) (congrArg Instr.rolAbsolute (wordOf_hi_lo addr16))⟩
theorem DispatchRow.rolAbsoluteX (addr16 : Word) : DispatchRow.Statement (.rolAbsoluteX addr16) :=
  ⟨0x3E, [_, _], .f3 .rolAbsoluteX, rfl, rfl, fun rest => congrArg (Decoded.instr · rest) (congrArg Instr.rolAbsoluteX (wordOf_hi_lo addr16))⟩
theorem DispatchRow.rorAccumulator : DispatchRow.Statement .rorAccumulator :=
  ⟨0x6A, [], .f1 .rorAccumulator, rfl, rfl, fun _ => rfl⟩
theorem DispatchRow.rorZeroPage (zp8 : Byte) : DispatchRow.Statement (.rorZeroPage zp8) :=
  ⟨0x66, [zp8], .f2 .rorZeroPage, rfl, rfl, fun _ => rfl⟩
theorem DispatchRow.rorZeroPageX (zp8 : Byte) : DispatchRow.Statement (.rorZeroPageX zp8) :=
  ⟨0x76, [zp8], .f2 .rorZeroPageX, rfl, rfl, fun _ => rfl⟩
theorem DispatchRow.rorAbsolute (addr16 : Word) : DispatchRow.Statement (.rorAbsolute addr16) :=
  ⟨0x6E, [_, _], .f3 .rorAbsolute, rfl, rfl, fun rest => congrArg (Decoded.instr · rest) (congrArg Instr.rorAbsolute (wordOf_hi_lo addr16))⟩
theorem DispatchRow.rorAbsoluteX (addr16 : Word) : DispatchRow.Statement (.rorAbsoluteX addr16) :=
  ⟨0x7E, [_, _], .f3 .rorAbsoluteX, rfl, rfl, fun rest => congrArg (Decoded.instr · rest) (congrArg Instr.rorAbsoluteX (wordOf_hi_lo addr16))⟩
theorem DispatchRow.andImmediate (imm8 : Byte) : DispatchRow.Statement (.andImmediate imm8) :=
  ⟨0x29, [imm8], .f2 .andImmediate, rfl, rfl, fun _ => rfl⟩
theorem DispatchRow.andZeroPage (zp8 : Byte) : DispatchRow.Statement (.andZeroPage zp8) :=
  ⟨0x25, [zp8], .f2 .andZeroPage, rfl, rfl, fun _ => rfl⟩
theorem DispatchRow.andZeroPageX (zp8 : Byte) : DispatchRow.Statement (.andZeroPageX zp8) :=
  ⟨0x35, [zp8], .f2 .andZeroPageX, rfl, rfl, fun _ => rfl⟩
theorem DispatchRow.andAbsolute (addr16 : Word) : DispatchRow.Statement (.andAbsolute addr16) :=
  ⟨0x2D, [_, _], .f3 .andAbsolute, rfl, rfl, fun rest => congrArg (Decoded.instr · rest) (congrArg Instr.andAbsolute (wordOf_hi_lo addr16))⟩
theorem DispatchRow.andAbsoluteX (addr16 : Word) : DispatchRow.Statement (.andAbsoluteX addr16) :=
  ⟨0x3D, [_, _], .f3 .andAbsoluteX, rfl, rfl, fun rest => congrArg (Decoded.instr · rest) (congrArg Instr.andAbsoluteX (wordOf_hi_lo addr16))⟩
theorem DispatchRow.andAbsoluteY (addr16 : Word) : DispatchRow.Statement (.andAbsoluteY addr16) :=
  ⟨0x39, [_, _], .f3 .andAbsoluteY, rfl, rfl, fun rest => congrArg (Decoded.instr · rest) (congrArg Instr.andAbsoluteY (wordOf_hi_lo addr16))⟩
theorem DispatchRow.andIndirectX (zp8 : Byte) : DispatchRow.Statement (.andIndirectX zp8) :=
  ⟨0x21, [zp8], .f2 .andIndirectX, rfl, rfl, fun _ => rfl⟩
theorem DispatchRow.andIndirectY (zp8 : Byte) : DispatchRow.Statement (.andIndirectY zp8) :=
  ⟨0x31, [zp8], .f2 .andIndirectY, rfl, rfl, fun _ => rfl⟩
theorem DispatchRow.oraImmediate (imm8 : Byte) : DispatchRow.Statement (.oraImmediate imm8) :=
  ⟨0x09, [imm8], .f2 .oraImmediate, rfl, rfl, fun _ => rfl⟩
theorem DispatchRow.oraZeroPage (zp8 : Byte) : DispatchRow.Statement (.oraZeroPage zp8) :=
  ⟨0x05, [zp8], .f2 .oraZeroPage, rfl, rfl, fun _ => rfl⟩
theorem DispatchRow.oraZeroPageX (zp8 : Byte) : DispatchRow.Statement (.oraZeroPageX zp8) :=
  ⟨0x15, [zp8], .f2 .oraZeroPageX, rfl, rfl, fun _ => rfl⟩
theorem DispatchRow.oraAbsolute (addr16 : Word) : DispatchRow.Statement (.oraAbsolute addr16) :=
  ⟨0x0D, [_, _], .f3 .oraAbsolute, rfl, rfl, fun rest => congrArg (Decoded.instr · rest) (congrArg Instr.oraAbsolute (wordOf_hi_lo addr16))⟩
theorem DispatchRow.oraAbsoluteX (addr16 : Word) : DispatchRow.Statement (.oraAbsoluteX addr16) :=
  ⟨0x1D, [_, _], .f3 .oraAbsoluteX, rfl, rfl, fun rest => congrArg (Decoded.instr · rest) (congrArg Instr.oraAbsoluteX (wordOf_hi_lo addr16))⟩
theorem DispatchRow.oraAbsoluteY (addr16 : Word) : DispatchRow.Statement (.oraAbsoluteY addr16) :=
  ⟨0x19, [_, _], .f3 .oraAbsoluteY, rfl, rfl, fun rest => congrArg (Decoded.instr · rest) (congrArg Instr.oraAbsoluteY (wordOf_hi_lo addr16))⟩
theorem DispatchRow.oraIndirectX (zp8 : Byte) : DispatchRow.Statement (.oraIndirectX zp8) :=
  ⟨0x01, [zp8], .f2 .oraIndirectX, rfl, rfl, fun _ => rfl⟩
theorem DispatchRow.oraIndirectY (zp8 : Byte) : DispatchRow.Statement (.oraIndirectY zp8) :=
  ⟨0x11, [zp8], .f2 .oraIndirectY, rfl, rfl, fun _ => rfl⟩
theorem DispatchRow.eorImmediate (imm8 : Byte) : DispatchRow.Statement (.eorImmediate imm8) :=
  ⟨0x49, [imm8], .f2 .eorImmediate, rfl, rfl, fun _ => rfl⟩
theorem DispatchRow.eorZeroPage (zp8 : Byte) : DispatchRow.Statement (.eorZeroPage zp8) :=
  ⟨0x45, [zp8], .f2 .eorZeroPage, rfl, rfl, fun _ => rfl⟩
theorem DispatchRow.eorZeroPageX (zp8 : Byte) : DispatchRow.Statement (.eorZeroPageX zp8) :=
  ⟨0x55, [zp8], .f2 .eorZeroPageX, rfl, rfl, fun _ => rfl⟩
theorem DispatchRow.eorAbsolute (addr16 : Word) : DispatchRow.Statement (.eorAbsolute addr16) :=
  ⟨0x4D, [_, _], .f3 .eorAbsolute, rfl, rfl, fun rest => congrArg (Decoded.instr · rest) (congrArg Instr.eorAbsolute (wordOf_hi_lo addr16))⟩
theorem DispatchRow.eorAbsoluteX (addr16 : Word) : DispatchRow.Statement (.eorAbsoluteX addr16) :=
  ⟨0x5D, [_, _], .f3 .eorAbsoluteX, rfl, rfl, fun rest => congrArg (Decoded.instr · rest) (congrArg Instr.eorAbsoluteX (wordOf_hi_lo addr16))⟩
theorem DispatchRow.eorAbsoluteY (addr16 : Word) : DispatchRow.Statement (.eorAbsoluteY addr16) :=
  ⟨0x59, [_, _], .f3 .eorAbsoluteY, rfl, rfl, fun rest => congrArg (Decoded.instr · rest) (congrArg Instr.eorAbsoluteY (wordOf_hi_lo addr16))⟩
theorem DispatchRow.eorIndirectX (zp8 : Byte) : DispatchRow.Statement (.eorIndirectX zp8) :=
  ⟨0x41, [zp8], .f2 .eorIndirectX, rfl, rfl, fun _ => rfl⟩
theorem DispatchRow.eorIndirectY (zp8 : Byte) : DispatchRow.Statement (.eorIndirectY zp8) :=
  ⟨0x51, [zp8], .f2 .eorIndirectY, rfl, rfl, fun _ => rfl⟩
theorem DispatchRow.bitZeroPage (zp8 : Byte) : DispatchRow.Statement (.bitZeroPage zp8) :=
  ⟨0x24, [zp8], .f2 .bitZeroPage, rfl, rfl, fun _ => rfl⟩
theorem DispatchRow.bitAbsolute (addr16 : Word) : DispatchRow.Statement (.bitAbsolute addr16) :=
  ⟨0x2C, [_, _], .f3 .bitAbsolute, rfl, rfl, fun rest => congrArg (Decoded.instr · rest) (congrArg Instr.bitAbsolute (wordOf_hi_lo addr16))⟩
theorem DispatchRow.cmpImmediate (imm8 : Byte) : DispatchRow.Statement (.cmpImmediate imm8) :=
  ⟨0xC9, [imm8], .f2 .cmpImmediate, rfl, rfl, fun _ => rfl⟩
theorem DispatchRow.cmpZeroPage (zp8 : Byte) : DispatchRow.Statement (.cmpZeroPage zp8) :=
  ⟨0xC5, [zp8], .f2 .cmpZeroPage, rfl, rfl, fun _ => rfl⟩
theorem DispatchRow.cmpZeroPageX (zp8 : Byte) : DispatchRow.Statement (.cmpZeroPageX zp8) :=
  ⟨0xD5, [zp8], .f2 .cmpZeroPageX, rfl, rfl, fun _ => rfl⟩
theorem DispatchRow.cmpAbsolute (addr16 : Word) : DispatchRow.Statement (.cmpAbsolute addr16) :=
  ⟨0xCD, [_, _], .f3 .cmpAbsolute, rfl, rfl, fun rest => congrArg (Decoded.instr · rest) (congrArg Instr.cmpAbsolute (wordOf_hi_lo addr16))⟩
theorem DispatchRow.cmpAbsoluteX (addr16 : Word) : DispatchRow.Statement (.cmpAbsoluteX addr16) :=
  ⟨0xDD, [_, _], .f3 .cmpAbsoluteX, rfl, rfl, fun rest => congrArg (Decoded.instr · rest) (congrArg Instr.cmpAbsoluteX (wordOf_hi_lo addr16))⟩
theorem DispatchRow.cmpAbsoluteY (addr16 : Word) : DispatchRow.Statement (.cmpAbsoluteY addr16) :=
  ⟨0xD9, [_, _], .f3 .cmpAbsoluteY, rfl, rfl, fun rest => congrArg (Decoded.instr · rest) (congrArg Instr.cmpAbsoluteY (wordOf_hi_lo addr16))⟩
theorem DispatchRow.cmpIndirectX (zp8 : Byte) : DispatchRow.Statement (.cmpIndirectX zp8) :=
  ⟨0xC1, [zp8], .f2 .cmpIndirectX, rfl, rfl, fun _ => rfl⟩
theorem DispatchRow.cmpIndirectY (zp8 : Byte) : DispatchRow.Statement (.cmpIndirectY zp8) :=
  ⟨0xD1, [zp8], .f2 .cmpIndirectY, rfl, rfl, fun _ => rfl⟩
theorem DispatchRow.cpxImmediate (imm8 : Byte) : DispatchRow.Statement (.cpxImmediate imm8) :=
  ⟨0xE0, [imm8], .f2 .cpxImmediate, rfl, rfl, fun _ => rfl⟩
theorem DispatchRow.cpxZeroPage (zp8 : Byte) : DispatchRow.Statement (.cpxZeroPage zp8) :=
  ⟨0xE4, [zp8], .f2 .cpxZeroPage, rfl, rfl, fun _ => rfl⟩
theorem DispatchRow.cpxAbsolute (addr16 : Word) : DispatchRow.Statement (.cpxAbsolute addr16) :=
  ⟨0xEC, [_, _], .f3 .cpxAbsolute, rfl, rfl, fun rest => congrArg (Decoded.instr · rest) (congrArg Instr.cpxAbsolute (wordOf_hi_lo addr16))⟩
theorem DispatchRow.cpyImmediate (imm8 : Byte) : DispatchRow.Statement (.cpyImmediate imm8) :=
  ⟨0xC0, [imm8], .f2 .cpyImmediate, rfl, rfl, fun _ => rfl⟩
theorem DispatchRow.cpyZeroPage (zp8 : Byte) : DispatchRow.Statement (.cpyZeroPage zp8) :=
  ⟨0xC4, [zp8], .f2 .cpyZeroPage, rfl, rfl, fun _ => rfl⟩
theorem DispatchRow.cpyAbsolute (addr16 : Word) : DispatchRow.Statement (.cpyAbsolute addr16) :=
  ⟨0xCC, [_, _], .f3 .cpyAbsolute, rfl, rfl, fun rest => congrArg (Decoded.instr · rest) (congrArg Instr.cpyAbsolute (wordOf_hi_lo addr16))⟩
theorem DispatchRow.bcc (disp8 : Byte) : DispatchRow.Statement (.bcc disp8) :=
  ⟨0x90, [disp8], .f2 .bcc, rfl, rfl, fun _ => rfl⟩
theorem DispatchRow.bcs (disp8 : Byte) : DispatchRow.Statement (.bcs disp8) :=
  ⟨0xB0, [disp8], .f2 .bcs, rfl, rfl, fun _ => rfl⟩
theorem DispatchRow.beq (disp8 : Byte) : DispatchRow.Statement (.beq disp8) :=
  ⟨0xF0, [disp8], .f2 .beq, rfl, rfl, fun _ => rfl⟩
theorem DispatchRow.bne (disp8 : Byte) : DispatchRow.Statement (.bne disp8) :=
  ⟨0xD0, [disp8], .f2 .bne, rfl, rfl, fun _ => rfl⟩
theorem DispatchRow.bmi (disp8 : Byte) : DispatchRow.Statement (.bmi disp8) :=
  ⟨0x30, [disp8], .f2 .bmi, rfl, rfl, fun _ => rfl⟩
theorem DispatchRow.bpl (disp8 : Byte) : DispatchRow.Statement (.bpl disp8) :=
  ⟨0x10, [disp8], .f2 .bpl, rfl, rfl, fun _ => rfl⟩
theorem DispatchRow.bvc (disp8 : Byte) : DispatchRow.Statement (.bvc disp8) :=
  ⟨0x50, [disp8], .f2 .bvc, rfl, rfl, fun _ => rfl⟩
theorem DispatchRow.bvs (disp8 : Byte) : DispatchRow.Statement (.bvs disp8) :=
  ⟨0x70, [disp8], .f2 .bvs, rfl, rfl, fun _ => rfl⟩
theorem DispatchRow.jmpAbsolute (addr16 : Word) : DispatchRow.Statement (.jmpAbsolute addr16) :=
  ⟨0x4C, [_, _], .f3 .jmpAbsolute, rfl, rfl, fun rest => congrArg (Decoded.instr · rest) (congrArg Instr.jmpAbsolute (wordOf_hi_lo addr16))⟩
theorem DispatchRow.jmpIndirect (addr16 : Word) : DispatchRow.Statement (.jmpIndirect addr16) :=
  ⟨0x6C, [_, _], .f3 .jmpIndirect, rfl, rfl, fun rest => congrArg (Decoded.instr · rest) (congrArg Instr.jmpIndirect (wordOf_hi_lo addr16))⟩
theorem DispatchRow.jsr (addr16 : Word) : DispatchRow.Statement (.jsr addr16) :=
  ⟨0x20, [_, _], .f3 .jsr, rfl, rfl, fun rest => congrArg (Decoded.instr · rest) (congrArg Instr.jsr (wordOf_hi_lo addr16))⟩
theorem DispatchRow.rts : DispatchRow.Statement .rts :=
  ⟨0x60, [], .f1 .rts, rfl, rfl, fun _ => rfl⟩
theorem DispatchRow.brk : DispatchRow.Statement .brk :=
  ⟨0x00, [], .f1 .brk, rfl, rfl, fun _ => rfl⟩
theorem DispatchRow.rti : DispatchRow.Statement .rti :=
  ⟨0x40, [], .f1 .rti, rfl, rfl, fun _ => rfl⟩
theorem DispatchRow.pha : DispatchRow.Statement .pha :=
  ⟨0x48, [], .f1 .pha, rfl, rfl, fun _ => rfl⟩
theorem DispatchRow.pla : DispatchRow.Statement .pla :=
  ⟨0x68, [], .f1 .pla, rfl, rfl, fun _ => rfl⟩
theorem DispatchRow.php : DispatchRow.Statement .php :=
  ⟨0x08, [], .f1 .php, rfl, rfl, fun _ => rfl⟩
theorem DispatchRow.plp : DispatchRow.Statement .plp :=
  ⟨0x28, [], .f1 .plp, rfl, rfl, fun _ => rfl⟩
theorem DispatchRow.clc : DispatchRow.Statement .clc :=
  ⟨0x18, [], .f1 .clc, rfl, rfl, fun _ => rfl⟩
theorem DispatchRow.sec : DispatchRow.Statement .sec :=
  ⟨0x38, [], .f1 .sec, rfl, rfl, fun _ => rfl⟩
theorem DispatchRow.cli : DispatchRow.Statement .cli :=
  ⟨0x58, [], .f1 .cli, rfl, rfl, fun _ => rfl⟩
theorem DispatchRow.sei : DispatchRow.Statement .sei :=
  ⟨0x78, [], .f1 .sei, rfl, rfl, fun _ => rfl⟩
theorem DispatchRow.cld : DispatchRow.Statement .cld :=
  ⟨0xD8, [], .f1 .cld, rfl, rfl, fun _ => rfl⟩
theorem DispatchRow.sed : DispatchRow.Statement .sed :=
  ⟨0xF8, [], .f1 .sed, rfl, rfl, fun _ => rfl⟩
theorem DispatchRow.clv : DispatchRow.Statement .clv :=
  ⟨0xB8, [], .f1 .clv, rfl, rfl, fun _ => rfl⟩
theorem DispatchRow.tax : DispatchRow.Statement .tax :=
  ⟨0xAA, [], .f1 .tax, rfl, rfl, fun _ => rfl⟩
theorem DispatchRow.txa : DispatchRow.Statement .txa :=
  ⟨0x8A, [], .f1 .txa, rfl, rfl, fun _ => rfl⟩
theorem DispatchRow.tay : DispatchRow.Statement .tay :=
  ⟨0xA8, [], .f1 .tay, rfl, rfl, fun _ => rfl⟩
theorem DispatchRow.tya : DispatchRow.Statement .tya :=
  ⟨0x98, [], .f1 .tya, rfl, rfl, fun _ => rfl⟩
theorem DispatchRow.tsx : DispatchRow.Statement .tsx :=
  ⟨0xBA, [], .f1 .tsx, rfl, rfl, fun _ => rfl⟩
theorem DispatchRow.txs : DispatchRow.Statement .txs :=
  ⟨0x9A, [], .f1 .txs, rfl, rfl, fun _ => rfl⟩
theorem DispatchRow.nop : DispatchRow.Statement .nop :=
  ⟨0xEA, [], .f1 .nop, rfl, rfl, fun _ => rfl⟩

end Sys2Proof.Laws
end

