-- ==== Sys2Proof/Tests/Slice0.lean ====
section
/-!
SUPPORT. The model's own tests. Expected words are R105's (30_encoding.md), expected results are the vectors of
95_test_vectors.md, both copied from the spec; at the end, a witness for every statement that has hypotheses.
-/

namespace Sys2Proof.Tests

open Sys2Proof Sys2Proof.Machine Sys2Proof.Claims

/-! ### Helpers -/

/-- Each list of bytes decodes, whole, to its instruction. -/
def decodesTo (words : List (List Byte × Instr)) : Bool :=
  words.all fun (bytes, i) => decide (decode Config.standard bytes = .instr i [])

/-- The registers of a vector: A, X, Y, SP, PC and the byte view P. -/
structure Regs where
  a : Byte
  x : Byte
  y : Byte
  sp : Byte
  pc : Word
  p : Byte

/-- The flags whose byte view is `p` (R27), read digit by digit in base 2. -/
def flagsOf (p : Byte) : Flags where
  c := p.toNat % 2 == 1
  z := p.toNat / 2 % 2 == 1
  i := p.toNat / 4 % 2 == 1
  d := p.toNat / 8 % 2 == 1
  b := p.toNat / 16 % 2 == 1
  v := p.toNat / 64 % 2 == 1
  n := p.toNat / 128 % 2 == 1

def writeCells (m : Memory) (cells : List (Word × Byte)) : Memory := cells.foldl (fun m c => m.write c.1 c.2) m

def stateOf (cfg : Config) (r : Regs) (m : Memory) : State :=
  { a := r.a, x := r.x, y := r.y, sp := r.sp, pc := r.pc, flags := flagsOf r.p, mem := m, cfg := cfg, draws := 0 }

/-- A vector's start: its cells, and its bytes at PC. -/
def startOf (cfg : Config) (bytes : List Byte) (r : Regs) (cells : List (Word × Byte)) : State :=
  stateOf cfg r ((writeCells [] cells).writeBytes r.pc bytes)

/-- A vector: bytes at PC, start, memory before, end, writes in order. -/
abbrev Vec := List Byte × Regs × List (Word × Byte) × Regs × List (Word × Byte)

def holds (cfg : Config) : Vec → Bool
  | (bytes, r, cells, r', writes) =>
    let s := startOf cfg bytes r cells
    match step s with
    | .next t => decide (t = stateOf cfg r' (writeCells s.mem writes)) && decide (t.flags.byteView = r'.p)
    | _ => false

def holdAll (vectors : List Vec) : Bool := vectors.all (holds Config.standard)

/-! ### Decoding: the words of R105, one for every constructor -/

theorem test_words_load_store_1 : decodesTo
   ([([0xA1, 0x9C], .ldaIndirectX 0x9C), ([0xA5, 0x9C], .ldaZeroPage 0x9C), ([0xA9, 0x9C], .ldaImmediate 0x9C),
    ([0xAD, 0x34, 0x12], .ldaAbsolute 0x1234), ([0xB1, 0x9C], .ldaIndirectY 0x9C),
    ([0xB5, 0x9C], .ldaZeroPageX 0x9C), ([0xB9, 0x34, 0x12], .ldaAbsoluteY 0x1234),
    ([0xBD, 0x34, 0x12], .ldaAbsoluteX 0x1234), ([0xA2, 0x9C], .ldxImmediate 0x9C),
    ([0xA6, 0x9C], .ldxZeroPage 0x9C), ([0xAE, 0x34, 0x12], .ldxAbsolute 0x1234),
    ([0xB6, 0x9C], .ldxZeroPageY 0x9C), ([0xBE, 0x34, 0x12], .ldxAbsoluteY 0x1234),
    ([0xA0, 0x9C], .ldyImmediate 0x9C), ([0xA4, 0x9C], .ldyZeroPage 0x9C),
    ([0xAC, 0x34, 0x12], .ldyAbsolute 0x1234), ([0xB4, 0x9C], .ldyZeroPageX 0x9C),
    ([0xBC, 0x34, 0x12], .ldyAbsoluteX 0x1234), ([0x81, 0x9C], .staIndirectX 0x9C),
    ([0x85, 0x9C], .staZeroPage 0x9C)]) = true := by decide

theorem test_words_load_store_2 : decodesTo
   ([([0x8D, 0x34, 0x12], .staAbsolute 0x1234), ([0x91, 0x9C], .staIndirectY 0x9C),
    ([0x95, 0x9C], .staZeroPageX 0x9C), ([0x99, 0x34, 0x12], .staAbsoluteY 0x1234),
    ([0x9D, 0x34, 0x12], .staAbsoluteX 0x1234), ([0x86, 0x9C], .stxZeroPage 0x9C),
    ([0x8E, 0x34, 0x12], .stxAbsolute 0x1234), ([0x96, 0x9C], .stxZeroPageY 0x9C),
    ([0x84, 0x9C], .styZeroPage 0x9C), ([0x8C, 0x34, 0x12], .styAbsolute 0x1234),
    ([0x94, 0x9C], .styZeroPageX 0x9C)]) = true := by decide

theorem test_words_arithmetic : decodesTo
   ([([0x61, 0x9C], .adcIndirectX 0x9C), ([0x65, 0x9C], .adcZeroPage 0x9C), ([0x69, 0x9C], .adcImmediate 0x9C),
    ([0x6D, 0x34, 0x12], .adcAbsolute 0x1234), ([0x71, 0x9C], .adcIndirectY 0x9C),
    ([0x75, 0x9C], .adcZeroPageX 0x9C), ([0x79, 0x34, 0x12], .adcAbsoluteY 0x1234),
    ([0x7D, 0x34, 0x12], .adcAbsoluteX 0x1234), ([0xE1, 0x9C], .sbcIndirectX 0x9C),
    ([0xE5, 0x9C], .sbcZeroPage 0x9C), ([0xE9, 0x9C], .sbcImmediate 0x9C),
    ([0xED, 0x34, 0x12], .sbcAbsolute 0x1234), ([0xF1, 0x9C], .sbcIndirectY 0x9C),
    ([0xF5, 0x9C], .sbcZeroPageX 0x9C), ([0xF9, 0x34, 0x12], .sbcAbsoluteY 0x1234),
    ([0xFD, 0x34, 0x12], .sbcAbsoluteX 0x1234)]) = true := by decide

theorem test_words_inc_dec : decodesTo
   ([([0xE6, 0x9C], .incZeroPage 0x9C), ([0xEE, 0x34, 0x12], .incAbsolute 0x1234),
    ([0xF6, 0x9C], .incZeroPageX 0x9C), ([0xFE, 0x34, 0x12], .incAbsoluteX 0x1234),
    ([0xC6, 0x9C], .decZeroPage 0x9C), ([0xCE, 0x34, 0x12], .decAbsolute 0x1234),
    ([0xD6, 0x9C], .decZeroPageX 0x9C), ([0xDE, 0x34, 0x12], .decAbsoluteX 0x1234), ([0xE8], .inx),
    ([0xC8], .iny), ([0xCA], .dex), ([0x88], .dey)]) = true := by decide

theorem test_words_shift : decodesTo
   ([([0x06, 0x9C], .aslZeroPage 0x9C), ([0x0A], .aslAccumulator), ([0x0E, 0x34, 0x12], .aslAbsolute 0x1234),
    ([0x16, 0x9C], .aslZeroPageX 0x9C), ([0x1E, 0x34, 0x12], .aslAbsoluteX 0x1234),
    ([0x46, 0x9C], .lsrZeroPage 0x9C), ([0x4A], .lsrAccumulator), ([0x4E, 0x34, 0x12], .lsrAbsolute 0x1234),
    ([0x56, 0x9C], .lsrZeroPageX 0x9C), ([0x5E, 0x34, 0x12], .lsrAbsoluteX 0x1234),
    ([0x26, 0x9C], .rolZeroPage 0x9C), ([0x2A], .rolAccumulator), ([0x2E, 0x34, 0x12], .rolAbsolute 0x1234),
    ([0x36, 0x9C], .rolZeroPageX 0x9C), ([0x3E, 0x34, 0x12], .rolAbsoluteX 0x1234),
    ([0x66, 0x9C], .rorZeroPage 0x9C), ([0x6A], .rorAccumulator), ([0x6E, 0x34, 0x12], .rorAbsolute 0x1234),
    ([0x76, 0x9C], .rorZeroPageX 0x9C), ([0x7E, 0x34, 0x12], .rorAbsoluteX 0x1234)]) = true := by decide

theorem test_words_logic_1 : decodesTo
   ([([0x21, 0x9C], .andIndirectX 0x9C), ([0x25, 0x9C], .andZeroPage 0x9C), ([0x29, 0x9C], .andImmediate 0x9C),
    ([0x2D, 0x34, 0x12], .andAbsolute 0x1234), ([0x31, 0x9C], .andIndirectY 0x9C),
    ([0x35, 0x9C], .andZeroPageX 0x9C), ([0x39, 0x34, 0x12], .andAbsoluteY 0x1234),
    ([0x3D, 0x34, 0x12], .andAbsoluteX 0x1234), ([0x01, 0x9C], .oraIndirectX 0x9C),
    ([0x05, 0x9C], .oraZeroPage 0x9C), ([0x09, 0x9C], .oraImmediate 0x9C),
    ([0x0D, 0x34, 0x12], .oraAbsolute 0x1234), ([0x11, 0x9C], .oraIndirectY 0x9C),
    ([0x15, 0x9C], .oraZeroPageX 0x9C), ([0x19, 0x34, 0x12], .oraAbsoluteY 0x1234),
    ([0x1D, 0x34, 0x12], .oraAbsoluteX 0x1234), ([0x41, 0x9C], .eorIndirectX 0x9C),
    ([0x45, 0x9C], .eorZeroPage 0x9C), ([0x49, 0x9C], .eorImmediate 0x9C),
    ([0x4D, 0x34, 0x12], .eorAbsolute 0x1234)]) = true := by decide

theorem test_words_logic_2 : decodesTo
   ([([0x51, 0x9C], .eorIndirectY 0x9C), ([0x55, 0x9C], .eorZeroPageX 0x9C),
    ([0x59, 0x34, 0x12], .eorAbsoluteY 0x1234), ([0x5D, 0x34, 0x12], .eorAbsoluteX 0x1234),
    ([0x24, 0x9C], .bitZeroPage 0x9C), ([0x2C, 0x34, 0x12], .bitAbsolute 0x1234)]) = true := by decide

theorem test_words_compare : decodesTo
   ([([0xC1, 0x9C], .cmpIndirectX 0x9C), ([0xC5, 0x9C], .cmpZeroPage 0x9C), ([0xC9, 0x9C], .cmpImmediate 0x9C),
    ([0xCD, 0x34, 0x12], .cmpAbsolute 0x1234), ([0xD1, 0x9C], .cmpIndirectY 0x9C),
    ([0xD5, 0x9C], .cmpZeroPageX 0x9C), ([0xD9, 0x34, 0x12], .cmpAbsoluteY 0x1234),
    ([0xDD, 0x34, 0x12], .cmpAbsoluteX 0x1234), ([0xE0, 0x9C], .cpxImmediate 0x9C),
    ([0xE4, 0x9C], .cpxZeroPage 0x9C), ([0xEC, 0x34, 0x12], .cpxAbsolute 0x1234),
    ([0xC0, 0x9C], .cpyImmediate 0x9C), ([0xC4, 0x9C], .cpyZeroPage 0x9C),
    ([0xCC, 0x34, 0x12], .cpyAbsolute 0x1234)]) = true := by decide

theorem test_words_branch : decodesTo
   ([([0x90, 0x9C], .bcc 0x9C), ([0xB0, 0x9C], .bcs 0x9C), ([0xF0, 0x9C], .beq 0x9C), ([0xD0, 0x9C], .bne 0x9C),
    ([0x30, 0x9C], .bmi 0x9C), ([0x10, 0x9C], .bpl 0x9C), ([0x50, 0x9C], .bvc 0x9C), ([0x70, 0x9C], .bvs 0x9C)]) = true := by decide

theorem test_words_jump_call : decodesTo
   ([([0x4C, 0x34, 0x12], .jmpAbsolute 0x1234), ([0x6C, 0x34, 0x12], .jmpIndirect 0x1234),
    ([0x20, 0x34, 0x12], .jsr 0x1234), ([0x60], .rts), ([0x00], .brk), ([0x40], .rti)]) = true := by decide

theorem test_words_stack : decodesTo
   ([([0x48], .pha), ([0x68], .pla), ([0x08], .php), ([0x28], .plp)]) = true := by decide

theorem test_words_flags_transfer_nop : decodesTo
   ([([0x18], .clc), ([0x38], .sec), ([0x58], .cli), ([0x78], .sei), ([0xD8], .cld), ([0xF8], .sed),
    ([0xB8], .clv), ([0xAA], .tax), ([0x8A], .txa), ([0xA8], .tay), ([0x98], .tya), ([0xBA], .tsx),
    ([0x9A], .txs), ([0xEA], .nop)]) = true := by decide

/-! ### One step: the vectors of 95_test_vectors.md, L2 -/

/-- V40-1 to V40-25. -/
theorem test_vectors_load_store : holdAll
   ([([0xA9, 0x00], ⟨0x55, 0x00, 0x00, 0xFF, 0x0200, 0x20⟩, [], ⟨0x00, 0x00, 0x00, 0xFF, 0x0202, 0x22⟩, []),
    ([0xA9, 0x80], ⟨0x00, 0x00, 0x00, 0xFF, 0x0200, 0x20⟩, [], ⟨0x80, 0x00, 0x00, 0xFF, 0x0202, 0xA0⟩, []),
    ([0xA5, 0x10], ⟨0x00, 0x00, 0x00, 0xFF, 0x0200, 0x20⟩, [(0x0010, 0x7F)], ⟨0x7F, 0x00, 0x00, 0xFF, 0x0202, 0x20⟩, []),
    ([0xB5, 0x80], ⟨0x00, 0xFF, 0x00, 0xFF, 0x0200, 0x20⟩, [(0x007F, 0x42)], ⟨0x42, 0xFF, 0x00, 0xFF, 0x0202, 0x20⟩, []),
    ([0xAD, 0x34, 0x12], ⟨0x00, 0x00, 0x00, 0xFF, 0x0200, 0x20⟩, [(0x1234, 0x99)], ⟨0x99, 0x00, 0x00, 0xFF, 0x0203, 0xA0⟩, []),
    ([0xBD, 0xFF, 0xFF], ⟨0x00, 0x02, 0x00, 0xFF, 0x0200, 0x20⟩, [(0x0001, 0x11)], ⟨0x11, 0x02, 0x00, 0xFF, 0x0203, 0x20⟩, []),
    ([0xB9, 0xF0, 0x12], ⟨0x00, 0x00, 0x20, 0xFF, 0x0200, 0x20⟩, [(0x1310, 0x01)], ⟨0x01, 0x00, 0x20, 0xFF, 0x0203, 0x20⟩, []),
    ([0xA1, 0xFE], ⟨0x00, 0x01, 0x00, 0xFF, 0x0200, 0x20⟩, [(0x0000, 0x30), (0x00FF, 0x00), (0x3000, 0xC3)], ⟨0xC3, 0x01, 0x00, 0xFF, 0x0202, 0xA0⟩, []),
    ([0xB1, 0x40], ⟨0x00, 0x00, 0x05, 0xFF, 0x0200, 0x20⟩, [(0x0040, 0xFE), (0x0041, 0x20), (0x2103, 0x5A)], ⟨0x5A, 0x00, 0x05, 0xFF, 0x0202, 0x20⟩, []),
    ([0xB1, 0xFF], ⟨0x00, 0x00, 0x01, 0xFF, 0x0200, 0x20⟩, [(0x0000, 0x40), (0x00FF, 0x10), (0x4011, 0x77)], ⟨0x77, 0x00, 0x01, 0xFF, 0x0202, 0x20⟩, []),
    ([0xA2, 0x00], ⟨0x00, 0x33, 0x00, 0xFF, 0x0200, 0x20⟩, [], ⟨0x00, 0x00, 0x00, 0xFF, 0x0202, 0x22⟩, []),
    ([0xB6, 0xF0], ⟨0x00, 0x00, 0x20, 0xFF, 0x0200, 0x20⟩, [(0x0010, 0x81)], ⟨0x00, 0x81, 0x20, 0xFF, 0x0202, 0xA0⟩, []),
    ([0xBE, 0x00, 0x30], ⟨0x00, 0x00, 0xFF, 0xFF, 0x0200, 0x20⟩, [(0x30FF, 0x01)], ⟨0x00, 0x01, 0xFF, 0xFF, 0x0203, 0x20⟩, []),
    ([0xA0, 0xFF], ⟨0x00, 0x00, 0x00, 0xFF, 0x0200, 0x20⟩, [], ⟨0x00, 0x00, 0xFF, 0xFF, 0x0202, 0xA0⟩, []),
    ([0xB4, 0x10], ⟨0x00, 0x01, 0x05, 0xFF, 0x0200, 0x20⟩, [(0x0011, 0x00)], ⟨0x00, 0x01, 0x00, 0xFF, 0x0202, 0x22⟩, []),
    ([0xBC, 0x00, 0x40], ⟨0x00, 0x10, 0x00, 0xFF, 0x0200, 0x20⟩, [(0x4010, 0x7E)], ⟨0x00, 0x10, 0x7E, 0xFF, 0x0203, 0x20⟩, []),
    ([0x85, 0x20], ⟨0x00, 0x00, 0x00, 0xFF, 0x0200, 0xA0⟩, [], ⟨0x00, 0x00, 0x00, 0xFF, 0x0202, 0xA0⟩, [(0x0020, 0x00)]),
    ([0x9D, 0xFF, 0xFF], ⟨0xAB, 0x01, 0x00, 0xFF, 0x0200, 0x20⟩, [], ⟨0xAB, 0x01, 0x00, 0xFF, 0x0203, 0x20⟩, [(0x0000, 0xAB)]),
    ([0x81, 0x10], ⟨0x5C, 0x04, 0x00, 0xFF, 0x0200, 0x20⟩, [(0x0014, 0x00), (0x0015, 0x30)], ⟨0x5C, 0x04, 0x00, 0xFF, 0x0202, 0x20⟩, [(0x3000, 0x5C)]),
    ([0x91, 0xFF], ⟨0x01, 0x00, 0x02, 0xFF, 0x0200, 0x20⟩, [(0x0000, 0xA9), (0x00FF, 0x00)], ⟨0x01, 0x00, 0x02, 0xFF, 0x0202, 0x20⟩, [(0xA902, 0x01)])] ++
   [([0x96, 0xFF], ⟨0x00, 0x66, 0x02, 0xFF, 0x0200, 0x20⟩, [], ⟨0x00, 0x66, 0x02, 0xFF, 0x0202, 0x20⟩, [(0x0001, 0x66)]),
    ([0x8E, 0x00, 0x05], ⟨0x00, 0x12, 0x00, 0xFF, 0x0200, 0x20⟩, [], ⟨0x00, 0x12, 0x00, 0xFF, 0x0203, 0x20⟩, [(0x0500, 0x12)]),
    ([0x94, 0xFE], ⟨0x00, 0x03, 0x34, 0xFF, 0x0200, 0x20⟩, [], ⟨0x00, 0x03, 0x34, 0xFF, 0x0202, 0x20⟩, [(0x0001, 0x34)]),
    ([0x8C, 0xFF, 0x07], ⟨0x00, 0x00, 0x80, 0xFF, 0x0200, 0x20⟩, [], ⟨0x00, 0x00, 0x80, 0xFF, 0x0203, 0x20⟩, [(0x07FF, 0x80)]),
    ([0xAD], ⟨0x00, 0x00, 0x00, 0xFF, 0xFFFE, 0x20⟩, [(0x0000, 0x30), (0x3000, 0x44), (0xFFFF, 0x00)], ⟨0x44, 0x00, 0x00, 0xFF, 0x0001, 0x20⟩, [])]) = true := by decide

/-- V41-1 to V41-26. -/
theorem test_vectors_arithmetic : holdAll
   ([([0x69, 0x50], ⟨0x50, 0x00, 0x00, 0xFF, 0x0200, 0x20⟩, [], ⟨0xA0, 0x00, 0x00, 0xFF, 0x0202, 0xE0⟩, []),
    ([0x69, 0x01], ⟨0xFF, 0x00, 0x00, 0xFF, 0x0200, 0x20⟩, [], ⟨0x00, 0x00, 0x00, 0xFF, 0x0202, 0x23⟩, []),
    ([0x69, 0x00], ⟨0x7F, 0x00, 0x00, 0xFF, 0x0200, 0x21⟩, [], ⟨0x80, 0x00, 0x00, 0xFF, 0x0202, 0xE0⟩, []),
    ([0x69, 0x80], ⟨0x80, 0x00, 0x00, 0xFF, 0x0200, 0x20⟩, [], ⟨0x00, 0x00, 0x00, 0xFF, 0x0202, 0x63⟩, []),
    ([0x69, 0xFF], ⟨0xFF, 0x00, 0x00, 0xFF, 0x0200, 0x21⟩, [], ⟨0xFF, 0x00, 0x00, 0xFF, 0x0202, 0xA1⟩, []),
    ([0x69, 0x00], ⟨0x00, 0x00, 0x00, 0xFF, 0x0200, 0xA0⟩, [], ⟨0x00, 0x00, 0x00, 0xFF, 0x0202, 0x22⟩, []),
    ([0xE9, 0x01], ⟨0x00, 0x00, 0x00, 0xFF, 0x0200, 0x21⟩, [], ⟨0xFF, 0x00, 0x00, 0xFF, 0x0202, 0xA0⟩, []),
    ([0xE9, 0x01], ⟨0x80, 0x00, 0x00, 0xFF, 0x0200, 0x21⟩, [], ⟨0x7F, 0x00, 0x00, 0xFF, 0x0202, 0x61⟩, []),
    ([0xE9, 0xB0], ⟨0x50, 0x00, 0x00, 0xFF, 0x0200, 0x21⟩, [], ⟨0xA0, 0x00, 0x00, 0xFF, 0x0202, 0xE0⟩, []),
    ([0xE9, 0x05], ⟨0x05, 0x00, 0x00, 0xFF, 0x0200, 0x20⟩, [], ⟨0xFF, 0x00, 0x00, 0xFF, 0x0202, 0xA0⟩, []),
    ([0xE9, 0x05], ⟨0x05, 0x00, 0x00, 0xFF, 0x0200, 0x21⟩, [], ⟨0x00, 0x00, 0x00, 0xFF, 0x0202, 0x23⟩, []),
    ([0x69, 0x01], ⟨0x09, 0x00, 0x00, 0xFF, 0x0200, 0x28⟩, [], ⟨0x10, 0x00, 0x00, 0xFF, 0x0202, 0x28⟩, []),
    ([0x69, 0x01], ⟨0x99, 0x00, 0x00, 0xFF, 0x0200, 0x28⟩, [], ⟨0x00, 0x00, 0x00, 0xFF, 0x0202, 0x2B⟩, []),
    ([0x69, 0x46], ⟨0x58, 0x00, 0x00, 0xFF, 0x0200, 0x29⟩, [], ⟨0x05, 0x00, 0x00, 0xFF, 0x0202, 0x69⟩, []),
    ([0x69, 0x00], ⟨0x79, 0x00, 0x00, 0xFF, 0x0200, 0x29⟩, [], ⟨0x80, 0x00, 0x00, 0xFF, 0x0202, 0xA8⟩, []),
    ([0x69, 0x50], ⟨0x50, 0x00, 0x00, 0xFF, 0x0200, 0x28⟩, [], ⟨0x00, 0x00, 0x00, 0xFF, 0x0202, 0x6B⟩, []),
    ([0xE9, 0x01], ⟨0x00, 0x00, 0x00, 0xFF, 0x0200, 0x29⟩, [], ⟨0x99, 0x00, 0x00, 0xFF, 0x0202, 0xA8⟩, []),
    ([0xE9, 0x01], ⟨0x10, 0x00, 0x00, 0xFF, 0x0200, 0x29⟩, [], ⟨0x09, 0x00, 0x00, 0xFF, 0x0202, 0x29⟩, []),
    ([0xE9, 0x12], ⟨0x46, 0x00, 0x00, 0xFF, 0x0200, 0x29⟩, [], ⟨0x34, 0x00, 0x00, 0xFF, 0x0202, 0x29⟩, []),
    ([0xE9, 0x13], ⟨0x40, 0x00, 0x00, 0xFF, 0x0200, 0x28⟩, [], ⟨0x26, 0x00, 0x00, 0xFF, 0x0202, 0x29⟩, [])] ++
   [([0xE9, 0x00], ⟨0x00, 0x00, 0x00, 0xFF, 0x0200, 0x28⟩, [], ⟨0x99, 0x00, 0x00, 0xFF, 0x0202, 0xA8⟩, []),
    ([0x69, 0x01], ⟨0x0F, 0x00, 0x00, 0xFF, 0x0200, 0x28⟩, [], ⟨0x16, 0x00, 0x00, 0xFF, 0x0202, 0x28⟩, []),
    ([0x69, 0xFF], ⟨0xFF, 0x00, 0x00, 0xFF, 0x0200, 0x28⟩, [], ⟨0x54, 0x00, 0x00, 0xFF, 0x0202, 0x29⟩, []),
    ([0xE9, 0x00], ⟨0x0A, 0x00, 0x00, 0xFF, 0x0200, 0x29⟩, [], ⟨0x0A, 0x00, 0x00, 0xFF, 0x0202, 0x29⟩, []),
    ([0x65, 0x10], ⟨0x01, 0x00, 0x00, 0xFF, 0x0200, 0x20⟩, [(0x0010, 0x02)], ⟨0x03, 0x00, 0x00, 0xFF, 0x0202, 0x20⟩, []),
    ([0xF1, 0x10], ⟨0x10, 0x00, 0x01, 0xFF, 0x0200, 0x21⟩, [(0x0010, 0x00), (0x0011, 0x30), (0x3001, 0x01)], ⟨0x0F, 0x00, 0x01, 0xFF, 0x0202, 0x21⟩, [])]) = true := by decide

/-- V42-1 to V42-10. -/
theorem test_vectors_inc_dec : holdAll
   ([([0xE6, 0x10], ⟨0x00, 0x00, 0x00, 0xFF, 0x0200, 0x61⟩, [(0x0010, 0xFF)], ⟨0x00, 0x00, 0x00, 0xFF, 0x0202, 0x63⟩, [(0x0010, 0x00)]),
    ([0xFE, 0x00, 0x30], ⟨0x00, 0x01, 0x00, 0xFF, 0x0200, 0x20⟩, [(0x3001, 0x7F)], ⟨0x00, 0x01, 0x00, 0xFF, 0x0203, 0xA0⟩, [(0x3001, 0x80)]),
    ([0xC6, 0x10], ⟨0x00, 0x00, 0x00, 0xFF, 0x0200, 0x20⟩, [(0x0010, 0x00)], ⟨0x00, 0x00, 0x00, 0xFF, 0x0202, 0xA0⟩, [(0x0010, 0xFF)]),
    ([0xD6, 0xFF], ⟨0x00, 0x02, 0x00, 0xFF, 0x0200, 0x20⟩, [(0x0001, 0x01)], ⟨0x00, 0x02, 0x00, 0xFF, 0x0202, 0x22⟩, [(0x0001, 0x00)]),
    ([0xCE, 0x00, 0x30], ⟨0x00, 0x00, 0x00, 0xFF, 0x0200, 0x20⟩, [(0x3000, 0x80)], ⟨0x00, 0x00, 0x00, 0xFF, 0x0203, 0x20⟩, [(0x3000, 0x7F)]),
    ([0xEE, 0x00, 0x30], ⟨0x00, 0x00, 0x00, 0xFF, 0x0200, 0x28⟩, [(0x3000, 0x09)], ⟨0x00, 0x00, 0x00, 0xFF, 0x0203, 0x28⟩, [(0x3000, 0x0A)]),
    ([0xE8], ⟨0x00, 0xFF, 0x00, 0xFF, 0x0200, 0x20⟩, [], ⟨0x00, 0x00, 0x00, 0xFF, 0x0201, 0x22⟩, []),
    ([0xC8], ⟨0x00, 0x00, 0x7F, 0xFF, 0x0200, 0x20⟩, [], ⟨0x00, 0x00, 0x80, 0xFF, 0x0201, 0xA0⟩, []),
    ([0xCA], ⟨0x00, 0x01, 0x00, 0xFF, 0x0200, 0x20⟩, [], ⟨0x00, 0x00, 0x00, 0xFF, 0x0201, 0x22⟩, []),
    ([0x88], ⟨0x00, 0x00, 0x00, 0xFF, 0x0200, 0x20⟩, [], ⟨0x00, 0x00, 0xFF, 0xFF, 0x0201, 0xA0⟩, [])]) = true := by decide

/-- V43-1 to V43-12. -/
theorem test_vectors_shift : holdAll
   ([([0x0A], ⟨0x80, 0x00, 0x00, 0xFF, 0x0200, 0x20⟩, [], ⟨0x00, 0x00, 0x00, 0xFF, 0x0201, 0x23⟩, []),
    ([0x0A], ⟨0x41, 0x00, 0x00, 0xFF, 0x0200, 0x21⟩, [], ⟨0x82, 0x00, 0x00, 0xFF, 0x0201, 0xA0⟩, []),
    ([0x4A], ⟨0x01, 0x00, 0x00, 0xFF, 0x0200, 0x20⟩, [], ⟨0x00, 0x00, 0x00, 0xFF, 0x0201, 0x23⟩, []),
    ([0x4A], ⟨0xFF, 0x00, 0x00, 0xFF, 0x0200, 0xA0⟩, [], ⟨0x7F, 0x00, 0x00, 0xFF, 0x0201, 0x21⟩, []),
    ([0x2A], ⟨0x80, 0x00, 0x00, 0xFF, 0x0200, 0x21⟩, [], ⟨0x01, 0x00, 0x00, 0xFF, 0x0201, 0x21⟩, []),
    ([0x2A], ⟨0x40, 0x00, 0x00, 0xFF, 0x0200, 0x20⟩, [], ⟨0x80, 0x00, 0x00, 0xFF, 0x0201, 0xA0⟩, []),
    ([0x6A], ⟨0x01, 0x00, 0x00, 0xFF, 0x0200, 0x21⟩, [], ⟨0x80, 0x00, 0x00, 0xFF, 0x0201, 0xA1⟩, []),
    ([0x6A], ⟨0x00, 0x00, 0x00, 0xFF, 0x0200, 0x20⟩, [], ⟨0x00, 0x00, 0x00, 0xFF, 0x0201, 0x22⟩, []),
    ([0x06, 0x10], ⟨0x00, 0x00, 0x00, 0xFF, 0x0200, 0x20⟩, [(0x0010, 0xC0)], ⟨0x00, 0x00, 0x00, 0xFF, 0x0202, 0xA1⟩, [(0x0010, 0x80)]),
    ([0x5E, 0x00, 0x30], ⟨0x00, 0x02, 0x00, 0xFF, 0x0200, 0x20⟩, [(0x3002, 0x02)], ⟨0x00, 0x02, 0x00, 0xFF, 0x0203, 0x20⟩, [(0x3002, 0x01)]),
    ([0x36, 0x10], ⟨0x00, 0x01, 0x00, 0xFF, 0x0200, 0x21⟩, [(0x0011, 0x00)], ⟨0x00, 0x01, 0x00, 0xFF, 0x0202, 0x20⟩, [(0x0011, 0x01)]),
    ([0x6E, 0x00, 0x30], ⟨0x00, 0x00, 0x00, 0xFF, 0x0200, 0x20⟩, [(0x3000, 0x03)], ⟨0x00, 0x00, 0x00, 0xFF, 0x0203, 0x21⟩, [(0x3000, 0x01)])]) = true := by decide

/-- V44-1 to V44-9. -/
theorem test_vectors_logic : holdAll
   ([([0x29, 0x0F], ⟨0xF0, 0x00, 0x00, 0xFF, 0x0200, 0x20⟩, [], ⟨0x00, 0x00, 0x00, 0xFF, 0x0202, 0x22⟩, []),
    ([0x25, 0x10], ⟨0xFF, 0x00, 0x00, 0xFF, 0x0200, 0x20⟩, [(0x0010, 0x80)], ⟨0x80, 0x00, 0x00, 0xFF, 0x0202, 0xA0⟩, []),
    ([0x09, 0x80], ⟨0x01, 0x00, 0x00, 0xFF, 0x0200, 0x20⟩, [], ⟨0x81, 0x00, 0x00, 0xFF, 0x0202, 0xA0⟩, []),
    ([0x09, 0x00], ⟨0x00, 0x00, 0x00, 0xFF, 0x0200, 0x20⟩, [], ⟨0x00, 0x00, 0x00, 0xFF, 0x0202, 0x22⟩, []),
    ([0x49, 0xFF], ⟨0xFF, 0x00, 0x00, 0xFF, 0x0200, 0x20⟩, [], ⟨0x00, 0x00, 0x00, 0xFF, 0x0202, 0x22⟩, []),
    ([0x59, 0x00, 0x30], ⟨0x0F, 0x00, 0x01, 0xFF, 0x0200, 0x20⟩, [(0x3001, 0xF0)], ⟨0xFF, 0x00, 0x01, 0xFF, 0x0203, 0xA0⟩, []),
    ([0x24, 0x10], ⟨0x01, 0x00, 0x00, 0xFF, 0x0200, 0x20⟩, [(0x0010, 0xC0)], ⟨0x01, 0x00, 0x00, 0xFF, 0x0202, 0xE2⟩, []),
    ([0x2C, 0x00, 0x30], ⟨0xFF, 0x00, 0x00, 0xFF, 0x0200, 0xE2⟩, [(0x3000, 0x01)], ⟨0xFF, 0x00, 0x00, 0xFF, 0x0203, 0x20⟩, []),
    ([0x24, 0x10], ⟨0x40, 0x00, 0x00, 0xFF, 0x0200, 0x20⟩, [(0x0010, 0x40)], ⟨0x40, 0x00, 0x00, 0xFF, 0x0202, 0x60⟩, [])]) = true := by decide

/-- V45-1 to V45-10. -/
theorem test_vectors_compare : holdAll
   ([([0xC9, 0x10], ⟨0x10, 0x00, 0x00, 0xFF, 0x0200, 0x20⟩, [], ⟨0x10, 0x00, 0x00, 0xFF, 0x0202, 0x23⟩, []),
    ([0xC9, 0x20], ⟨0x10, 0x00, 0x00, 0xFF, 0x0200, 0x20⟩, [], ⟨0x10, 0x00, 0x00, 0xFF, 0x0202, 0xA0⟩, []),
    ([0xC9, 0x01], ⟨0x10, 0x00, 0x00, 0xFF, 0x0200, 0x20⟩, [], ⟨0x10, 0x00, 0x00, 0xFF, 0x0202, 0x21⟩, []),
    ([0xC9, 0x80], ⟨0x00, 0x00, 0x00, 0xFF, 0x0200, 0x20⟩, [], ⟨0x00, 0x00, 0x00, 0xFF, 0x0202, 0xA0⟩, []),
    ([0xC9, 0x00], ⟨0xFF, 0x00, 0x00, 0xFF, 0x0200, 0x20⟩, [], ⟨0xFF, 0x00, 0x00, 0xFF, 0x0202, 0xA1⟩, []),
    ([0xC9, 0x05], ⟨0x09, 0x00, 0x00, 0xFF, 0x0200, 0x29⟩, [], ⟨0x09, 0x00, 0x00, 0xFF, 0x0202, 0x29⟩, []),
    ([0xE4, 0x10], ⟨0x00, 0x05, 0x00, 0xFF, 0x0200, 0x20⟩, [(0x0010, 0x06)], ⟨0x00, 0x05, 0x00, 0xFF, 0x0202, 0xA0⟩, []),
    ([0xE0, 0x00], ⟨0x00, 0x00, 0x00, 0xFF, 0x0200, 0x20⟩, [], ⟨0x00, 0x00, 0x00, 0xFF, 0x0202, 0x23⟩, []),
    ([0xCC, 0x00, 0x30], ⟨0x00, 0x00, 0x80, 0xFF, 0x0200, 0x20⟩, [(0x3000, 0x7F)], ⟨0x00, 0x00, 0x80, 0xFF, 0x0203, 0x21⟩, []),
    ([0xC0, 0xFF], ⟨0x00, 0x00, 0xFF, 0xFF, 0x0200, 0x20⟩, [], ⟨0x00, 0x00, 0xFF, 0xFF, 0x0202, 0x23⟩, [])]) = true := by decide

/-- V46-1 to V46-12. -/
theorem test_vectors_branch : holdAll
   ([([0xD0, 0x7F], ⟨0x00, 0x00, 0x00, 0xFF, 0x0200, 0x20⟩, [], ⟨0x00, 0x00, 0x00, 0xFF, 0x0281, 0x20⟩, []),
    ([0xD0, 0x80], ⟨0x00, 0x00, 0x00, 0xFF, 0x0200, 0x20⟩, [], ⟨0x00, 0x00, 0x00, 0xFF, 0x0182, 0x20⟩, []),
    ([0xD0, 0x80], ⟨0x00, 0x00, 0x00, 0xFF, 0x0200, 0x22⟩, [], ⟨0x00, 0x00, 0x00, 0xFF, 0x0202, 0x22⟩, []),
    ([0xF0, 0x02], ⟨0x00, 0x00, 0x00, 0xFF, 0x0200, 0x22⟩, [], ⟨0x00, 0x00, 0x00, 0xFF, 0x0204, 0x22⟩, []),
    ([0x90, 0xFE], ⟨0x00, 0x00, 0x00, 0xFF, 0x0200, 0x20⟩, [], ⟨0x00, 0x00, 0x00, 0xFF, 0x0200, 0x20⟩, []),
    ([0xB0, 0x10], ⟨0x00, 0x00, 0x00, 0xFF, 0x0200, 0x20⟩, [], ⟨0x00, 0x00, 0x00, 0xFF, 0x0202, 0x20⟩, []),
    ([0x30, 0x10], ⟨0x00, 0x00, 0x00, 0xFF, 0x0200, 0xA0⟩, [], ⟨0x00, 0x00, 0x00, 0xFF, 0x0212, 0xA0⟩, []),
    ([0x10, 0x10], ⟨0x00, 0x00, 0x00, 0xFF, 0x0200, 0x20⟩, [], ⟨0x00, 0x00, 0x00, 0xFF, 0x0212, 0x20⟩, []),
    ([0x50, 0x10], ⟨0x00, 0x00, 0x00, 0xFF, 0x0200, 0x60⟩, [], ⟨0x00, 0x00, 0x00, 0xFF, 0x0202, 0x60⟩, []),
    ([0x70, 0xF0], ⟨0x00, 0x00, 0x00, 0xFF, 0x0200, 0x60⟩, [], ⟨0x00, 0x00, 0x00, 0xFF, 0x01F2, 0x60⟩, []),
    ([0xB0, 0xFC], ⟨0x00, 0x00, 0x00, 0xFF, 0x0000, 0x21⟩, [], ⟨0x00, 0x00, 0x00, 0xFF, 0xFFFE, 0x21⟩, []),
    ([0x10, 0x05], ⟨0x00, 0x00, 0x00, 0xFF, 0xFFFC, 0x20⟩, [], ⟨0x00, 0x00, 0x00, 0xFF, 0x0003, 0x20⟩, [])]) = true := by decide

/-- V47-1 to V47-9. -/
theorem test_vectors_jump_call : holdAll
   ([([0x4C, 0x34, 0x12], ⟨0x00, 0x00, 0x00, 0xFF, 0x0200, 0x20⟩, [], ⟨0x00, 0x00, 0x00, 0xFF, 0x1234, 0x20⟩, []),
    ([0x6C, 0x00, 0x30], ⟨0x00, 0x00, 0x00, 0xFF, 0x0200, 0x20⟩, [(0x3000, 0x78), (0x3001, 0x56)], ⟨0x00, 0x00, 0x00, 0xFF, 0x5678, 0x20⟩, []),
    ([0x6C, 0xFF, 0x30], ⟨0x00, 0x00, 0x00, 0xFF, 0x0200, 0x20⟩, [(0x3000, 0x50), (0x30FF, 0x80), (0x3100, 0x40)], ⟨0x00, 0x00, 0x00, 0xFF, 0x5080, 0x20⟩, []),
    ([0x20, 0x00, 0x30], ⟨0x00, 0x00, 0x00, 0xFF, 0x0200, 0x20⟩, [], ⟨0x00, 0x00, 0x00, 0xFD, 0x3000, 0x20⟩, [(0x01FF, 0x02), (0x01FE, 0x02)]),
    ([0x20, 0x00, 0x30], ⟨0x00, 0x00, 0x00, 0x00, 0x0200, 0x20⟩, [], ⟨0x00, 0x00, 0x00, 0xFE, 0x3000, 0x20⟩, [(0x0100, 0x02), (0x01FF, 0x02)]),
    ([0x60], ⟨0x00, 0x00, 0x00, 0xFD, 0x0200, 0x20⟩, [(0x01FE, 0x02), (0x01FF, 0x12)], ⟨0x00, 0x00, 0x00, 0xFF, 0x1203, 0x20⟩, []),
    ([0x60], ⟨0x00, 0x00, 0x00, 0xFF, 0x0200, 0x20⟩, [(0x0100, 0xFF), (0x0101, 0x1F)], ⟨0x00, 0x00, 0x00, 0x01, 0x2000, 0x20⟩, []),
    ([0x00, 0xEA], ⟨0x00, 0x00, 0x00, 0xFF, 0x0200, 0x29⟩, [(0xFFFE, 0x00), (0xFFFF, 0x80)], ⟨0x00, 0x00, 0x00, 0xFC, 0x8000, 0x2D⟩, [(0x01FF, 0x02), (0x01FE, 0x02), (0x01FD, 0x39)]),
    ([0x40], ⟨0x00, 0x00, 0x00, 0xFC, 0x0200, 0x20⟩, [(0x01FD, 0xC3), (0x01FE, 0x02), (0x01FF, 0x12)], ⟨0x00, 0x00, 0x00, 0xFF, 0x1202, 0xE3⟩, [])]) = true := by decide

/-- V48-1 to V48-8. -/
theorem test_vectors_stack : holdAll
   ([([0x48], ⟨0x5A, 0x00, 0x00, 0xFF, 0x0200, 0x20⟩, [], ⟨0x5A, 0x00, 0x00, 0xFE, 0x0201, 0x20⟩, [(0x01FF, 0x5A)]),
    ([0x48], ⟨0x5A, 0x00, 0x00, 0x00, 0x0200, 0x20⟩, [], ⟨0x5A, 0x00, 0x00, 0xFF, 0x0201, 0x20⟩, [(0x0100, 0x5A)]),
    ([0x68], ⟨0x11, 0x00, 0x00, 0xFE, 0x0200, 0x20⟩, [(0x01FF, 0x00)], ⟨0x00, 0x00, 0x00, 0xFF, 0x0201, 0x22⟩, []),
    ([0x68], ⟨0x00, 0x00, 0x00, 0xFF, 0x0200, 0x20⟩, [(0x0100, 0x80)], ⟨0x80, 0x00, 0x00, 0x00, 0x0201, 0xA0⟩, []),
    ([0x08], ⟨0x00, 0x00, 0x00, 0xFF, 0x0200, 0x20⟩, [], ⟨0x00, 0x00, 0x00, 0xFE, 0x0201, 0x20⟩, [(0x01FF, 0x30)]),
    ([0x08], ⟨0x00, 0x00, 0x00, 0xFF, 0x0200, 0xEF⟩, [], ⟨0x00, 0x00, 0x00, 0xFE, 0x0201, 0xEF⟩, [(0x01FF, 0xFF)]),
    ([0x28], ⟨0x00, 0x00, 0x00, 0xFE, 0x0200, 0x20⟩, [(0x01FF, 0xFF)], ⟨0x00, 0x00, 0x00, 0xFF, 0x0201, 0xEF⟩, []),
    ([0x28], ⟨0x00, 0x00, 0x00, 0xFE, 0x0200, 0xEF⟩, [(0x01FF, 0x00)], ⟨0x00, 0x00, 0x00, 0xFF, 0x0201, 0x20⟩, [])]) = true := by decide

/-- V49-1 to V49-14. -/
theorem test_vectors_flags_transfer_nop : holdAll
   ([([0x18], ⟨0x00, 0x00, 0x00, 0xFF, 0x0200, 0x21⟩, [], ⟨0x00, 0x00, 0x00, 0xFF, 0x0201, 0x20⟩, []),
    ([0x38], ⟨0x00, 0x00, 0x00, 0xFF, 0x0200, 0x20⟩, [], ⟨0x00, 0x00, 0x00, 0xFF, 0x0201, 0x21⟩, []),
    ([0x58], ⟨0x00, 0x00, 0x00, 0xFF, 0x0200, 0x24⟩, [], ⟨0x00, 0x00, 0x00, 0xFF, 0x0201, 0x20⟩, []),
    ([0x78], ⟨0x00, 0x00, 0x00, 0xFF, 0x0200, 0x20⟩, [], ⟨0x00, 0x00, 0x00, 0xFF, 0x0201, 0x24⟩, []),
    ([0xD8], ⟨0x00, 0x00, 0x00, 0xFF, 0x0200, 0x28⟩, [], ⟨0x00, 0x00, 0x00, 0xFF, 0x0201, 0x20⟩, []),
    ([0xF8], ⟨0x00, 0x00, 0x00, 0xFF, 0x0200, 0x20⟩, [], ⟨0x00, 0x00, 0x00, 0xFF, 0x0201, 0x28⟩, []),
    ([0xB8], ⟨0x00, 0x00, 0x00, 0xFF, 0x0200, 0x60⟩, [], ⟨0x00, 0x00, 0x00, 0xFF, 0x0201, 0x20⟩, []),
    ([0xAA], ⟨0x80, 0x00, 0x00, 0xFF, 0x0200, 0x20⟩, [], ⟨0x80, 0x80, 0x00, 0xFF, 0x0201, 0xA0⟩, []),
    ([0x8A], ⟨0x12, 0x00, 0x00, 0xFF, 0x0200, 0x20⟩, [], ⟨0x00, 0x00, 0x00, 0xFF, 0x0201, 0x22⟩, []),
    ([0xA8], ⟨0x01, 0x00, 0x00, 0xFF, 0x0200, 0x22⟩, [], ⟨0x01, 0x00, 0x01, 0xFF, 0x0201, 0x20⟩, []),
    ([0x98], ⟨0x00, 0x00, 0xFF, 0xFF, 0x0200, 0x20⟩, [], ⟨0xFF, 0x00, 0xFF, 0xFF, 0x0201, 0xA0⟩, []),
    ([0xBA], ⟨0x00, 0x00, 0x00, 0xFD, 0x0200, 0x20⟩, [], ⟨0x00, 0xFD, 0x00, 0xFD, 0x0201, 0xA0⟩, []),
    ([0x9A], ⟨0x00, 0x00, 0x00, 0xFF, 0x0200, 0xA0⟩, [], ⟨0x00, 0x00, 0x00, 0x00, 0x0201, 0xA0⟩, []),
    ([0xEA], ⟨0x01, 0x00, 0x00, 0xFF, 0x0200, 0x21⟩, [], ⟨0x01, 0x00, 0x00, 0xFF, 0x0201, 0x21⟩, [])]) = true := by decide

/-! ### Rejections, parameter variants, reset -/

def noBrkRti : Config := { Config.standard with brkRtiModelled := false }
def loadingB : Config := { Config.standard with plpLoadsB := true }
def drawing : Config := { Config.standard with nonBcdPolicy := .draw }

/-- The default state at 0x0200 (E11) with bytes there. -/
def at0200 (cfg : Config) (bytes : List Byte) : State :=
  startOf cfg bytes ⟨0x00, 0x00, 0x00, 0xFF, 0x0200, 0x20⟩ []

/-- R266: without the parameter, BRK and RTI are no instructions; with it they are, and nothing else depends on it. -/
theorem test_wellFormed :
    Instr.brk.wellFormed noBrkRti = false ∧ Instr.rti.wellFormed noBrkRti = false ∧
    Instr.brk.wellFormed Config.standard = true ∧ Instr.rti.wellFormed Config.standard = true ∧
    Instr.nop.wellFormed noBrkRti = true := by decide

theorem test_decoder_rejects_by_name :
    decode Config.standard [] = .rejected .noBytes ∧ decode Config.standard [0xA9] = .rejected (.truncated 0xA9) ∧
    decode Config.standard [0xAD, 0x34] = .rejected (.truncated 0xAD) ∧
    decode noBrkRti [0x40] = .rejected (.undefinedOpcode 0x40) := by decide

/-- R85, R108: all 105 bytes, whatever follows. -/
theorem test_undefined_bytes : undefinedBytes.length = 105 ∧
    undefinedBytes.all (fun op => decide (decode Config.standard [op, 0xEA, 0xEA] = .rejected (.undefinedOpcode op))) =
      true := by decide

/-- The table's own bit numbering: opcode in bits 7 to 0, then `{b2, b1}`; operand bits above `nbits` are 0. -/
theorem test_table_words :
    decodeTableWord 24 0x1234AD = some (.ldaAbsolute 0x1234) ∧ decodeTableWord 8 0x1234AD = some (.ldaAbsolute 0x0000) ∧
    decodeTableWord 16 0xFAD0 = some (.bne 0xFA) ∧ decodeTableWord 8 0x02 = none := by decide

theorem test_withFetchWord : step (State.reset.withFetchWord 24 0x12344C) = exec (.jmpAbsolute 0x1234)
    (State.reset.withFetchWord 24 0x12344C) := rfl

/-- V60-1 to V60-3, VP-1, VP-2. -/
theorem test_vectors_decode_error :
    step (startOf Config.standard [0x02] ⟨0x12, 0x00, 0x00, 0xF0, 0x0200, 0x20⟩ []) =
      .fault (.decodeError 0x0200 0x02) ∧
    step (at0200 Config.standard [0xFF]) = .fault (.decodeError 0x0200 0xFF) ∧
    step (at0200 Config.standard [0x80, 0x00]) = .fault (.decodeError 0x0200 0x80) ∧
    step (at0200 noBrkRti [0x00]) = .fault (.decodeError 0x0200 0x00) ∧
    step (at0200 noBrkRti [0x40]) = .fault (.decodeError 0x0200 0x40) := ⟨rfl, rfl, rfl, rfl, rfl⟩

/-- VP-3 to VP-5, VP-7, VP-8. -/
theorem test_vectors_parameters :
    holds loadingB ([0x28], ⟨0x00, 0x00, 0x00, 0xFE, 0x0200, 0x20⟩, [(0x01FF, 0xFF)],
      ⟨0x00, 0x00, 0x00, 0xFF, 0x0201, 0xFF⟩, []) = true ∧
    holds loadingB ([0x28], ⟨0x00, 0x00, 0x00, 0xFE, 0x0200, 0x30⟩, [(0x01FF, 0x00)],
      ⟨0x00, 0x00, 0x00, 0xFF, 0x0201, 0x20⟩, []) = true ∧
    holds loadingB ([0x40], ⟨0x00, 0x00, 0x00, 0xFC, 0x0200, 0x20⟩, [(0x01FD, 0xD0), (0x01FE, 0x02), (0x01FF, 0x12)],
      ⟨0x00, 0x00, 0x00, 0xFF, 0x1202, 0xF0⟩, []) = true ∧
    holds drawing ([0x69, 0x01], ⟨0x09, 0x00, 0x00, 0xFF, 0x0200, 0x28⟩, [],
      ⟨0x10, 0x00, 0x00, 0xFF, 0x0202, 0x28⟩, []) = true ∧
    holds Config.standard ([0x08], ⟨0x00, 0x00, 0x00, 0xFF, 0x0200, 0x30⟩, [],
      ⟨0x00, 0x00, 0x00, 0xFE, 0x0201, 0x30⟩, [(0x01FF, 0x30)]) = true := by decide

/-- VP-6: the result and the carry are the free values, V is the binary one, Z and N follow the result. -/
theorem test_vector_draw : ∃ t,
    step (startOf drawing [0x69, 0x01] ⟨0x0F, 0x00, 0x00, 0xFF, 0x0200, 0x28⟩ []) = .next t ∧
    t.a = Config.freeByte 0 ∧ t.flags.c = Config.freeBit 0 ∧ t.flags.v = false ∧
    t.flags.z = (Config.freeByte 0 == 0) ∧ t.flags.n = (Config.freeByte 0).getLsbD 7 ∧ t.pc = 0x0202 ∧ t.draws = 1 :=
  ⟨_, rfl, rfl, rfl, rfl, rfl, rfl, rfl, rfl⟩

/-- E11. -/
theorem test_reset : State.reset.sp = 0xFF ∧ State.reset.a = 0x00 ∧ State.reset.flags.byteView = 0x20 ∧
    State.reset.mem.read 0xFFFC = 0x00 := by decide

/-- R63: a later segment wins, and the last address may be written. -/
theorem test_image : ∃ s, construct
      { resetPc := 0x0200, initState := none, image := [⟨0xFFFF, [0x11]⟩, ⟨0x0200, [0xA9, 0x01]⟩, ⟨0x0201, [0x02]⟩],
        initFill := 0x00, cfg := Config.standard } = .built s ∧
    s.mem = [(0x0200, 0xA9), (0x0201, 0x02), (0xFFFF, 0x11)] := ⟨_, rfl, by decide⟩

/-- R358: the predicate is tested first, then the budget counts steps. -/
theorem test_run : run 5 (fun _ => true) State.reset = .stopped 0 State.reset ∧
    run 0 (fun _ => true) State.reset = .exhausted 0 State.reset := ⟨rfl, rfl⟩

/-! ### Witnesses: the hypotheses of each statement can be met -/

theorem witness_DecodeOfEncode : Instr.brk.wellFormed Config.standard = true ∧ Instr.nop.wellFormed noBrkRti = true := by
  decide

theorem witness_EncodeOfDecode : decode Config.standard [0xA9, 0x05, 0xEA] = .instr (.ldaImmediate 0x05) [0xEA] := by
  decide

/-- A three-byte instruction whose bytes wrap past 0xFFFF, and a one-byte one. -/
theorem witness_StepExecutes :
    let s := startOf Config.standard [0xAD, 0x00, 0x30] ⟨0x00, 0x00, 0x00, 0xFF, 0xFFFE, 0x20⟩ []
    let u := at0200 Config.standard [0xEA]
    decode s.cfg [s.mem.read s.pc, s.mem.read (past s 1), s.mem.read (past s 2)] = .instr (.ldaAbsolute 0x3000) [] ∧
    decode u.cfg [u.mem.read u.pc, u.mem.read (past u 1), u.mem.read (past u 2)] = .instr .nop [0x00, 0x00] := by
  decide

theorem witness_Undefined : Undefined Config.standard 0x02 ∧ Undefined noBrkRti 0x00 ∧ Undefined noBrkRti 0x40 ∧
    ¬Undefined Config.standard 0x00 ∧ ¬Undefined noBrkRti 0xEA := by
  simp [Undefined, undefinedBytes, noBrkRti, Config.standard]

/-- NOP meets the premises of every clause about an instruction that does not write the thing. -/
theorem witness_frames : (∃ t, exec .nop State.reset = .next t) ∧ Instr.nop.mnemonic ∉ controlFlow ∧
    Instr.nop.mnemonic ∉ writesZN ∧ Instr.nop.mnemonic = .NOP ∧ Instr.nop.mode ≠ .accumulator :=
  ⟨⟨_, rfl⟩, by decide, by decide, by decide, by decide⟩

/-- The shifts: on memory they keep A, on the accumulator they keep memory. PLP keeps B without `PLP_LOADS_B`. -/
theorem witness_frames_of_forms :
    (∃ t, exec (.aslZeroPage 0x10) State.reset = .next t) ∧ (Instr.aslZeroPage 0x10).mode ≠ .accumulator ∧
    (∃ t, exec .aslAccumulator State.reset = .next t) ∧ Instr.aslAccumulator.mode = .accumulator ∧
    (∃ t, exec .plp State.reset = .next t) ∧ State.reset.cfg.plpLoadsB = false :=
  ⟨⟨_, rfl⟩, by decide, ⟨_, rfl⟩, by decide, ⟨_, rfl⟩, rfl⟩

theorem witness_PushesStay : (∃ t, exec .pha State.reset = .next t) ∧
    Instr.pha.mnemonic ∈ [Mnemonic.PHA, .PHP, .JSR, .BRK] ∧ (0x00FF : Word).toNat < 0x0100 ∧
    0x01FF < (0x0200 : Word).toNat := ⟨⟨_, rfl⟩, by decide, by decide, by decide⟩

theorem witness_InterruptFlag : Instr.nop.mnemonic ≠ .PHP ∧ Instr.nop.mnemonic ≠ .BRK := by decide

theorem witness_DecimalFlag : (Instr.cmpImmediate 0x05).mnemonic ∉ [Mnemonic.ADC, .SBC, .PHP, .BRK] := by decide

/-- Each clause of the driver loop: the predicate holds; it does not, and the step faults; it does not, and the step
succeeds. -/
theorem witness_RunFollows :
    (fun s : State => decide (s.pc = 0x0200)) State.reset = true ∧
    (fun s : State => decide (s.pc = 0x0201)) (at0200 Config.standard [0x02]) = false ∧
    step (at0200 Config.standard [0x02]) = .fault (.decodeError 0x0200 0x02) ∧
    (fun s : State => decide (s.pc = 0x0201)) State.reset = false ∧ (∃ t, step State.reset = .next t) :=
  ⟨by decide, by decide, rfl, by decide, ⟨_, rfl⟩⟩

theorem witness_StepKeepsTheInvariant : State.reset.Inv ∧ ∃ t, step State.reset = .next t := ⟨rfl, ⟨_, rfl⟩⟩

theorem witness_RunsKeep : (∃ t, RunsTo 2 (at0200 Config.standard [0xEA, 0xEA]) t) ∧
    (at0200 Config.standard [0xEA, 0xEA]).cfg.plpLoadsB = false := ⟨⟨_, rfl⟩, rfl⟩

def someProcessor : InitState where
  a := 0x01
  x := 0x02
  y := 0x03
  sp := 0x00
  pc := 0xFFFF
  flags := flagsOf 0xFF

/-- Construction with and without a supplied processor state. -/
theorem witness_Construction :
    (∃ s, construct { resetPc := 0x0200, initState := none, image := [], initFill := 0x00, cfg := Config.standard } =
      .built s) ∧
    (∃ s, construct
      { resetPc := 0x0200, initState := some someProcessor, image := [⟨0xFFFF, [0x11]⟩], initFill := 0x00,
        cfg := loadingB } = .built s) := ⟨⟨_, rfl⟩, ⟨_, rfl⟩⟩

/-- The two clauses at the boundary: one byte at 0xFFFF fits, two do not. -/
theorem witness_ConstructionRejects :
    (0xFFFF : Word).toNat + [(0x11 : Byte)].length ≤ 65536 ∧
    (0xFFFF : Word).toNat + [(0x11 : Byte), 0x22].length > 65536 := by decide

/-- Binary; decimal by the policy; decimal by packed operands under `Draw`, at the boundary 0x99; a draw, at 0x9A. -/
theorem witness_Arithmetic :
    State.reset.flags.d = false ∧
    UsesAlgorithm (stateOf Config.standard ⟨0xFF, 0x00, 0x00, 0xFF, 0x0200, 0x28⟩ []) 0x9A ∧
    UsesAlgorithm (stateOf drawing ⟨0x99, 0x00, 0x00, 0xFF, 0x0200, 0x28⟩ []) 0x99 ∧ PackedBcd 0x99 ∧
    TakesDraw (stateOf drawing ⟨0x99, 0x00, 0x00, 0xFF, 0x0200, 0x28⟩ []) 0x9A :=
  ⟨rfl, ⟨rfl, .inl rfl⟩, ⟨rfl, .inr ⟨⟨by decide, by decide⟩, ⟨by decide, by decide⟩⟩⟩, ⟨by decide, by decide⟩,
    ⟨rfl, rfl, fun h => absurd h.2.2 (by decide)⟩⟩

/-- After JSR and after BRK, a state that something else has changed, with SP and the pushed bytes as they were. -/
theorem witness_returns :
    (∃ t, exec (.jsr 0x3000) State.reset = .next t ∧ ∃ u : State, u.a = 0x55 ∧ u.sp = t.sp ∧
      u.mem.read (stackAt 0xFF) = t.mem.read (stackAt 0xFF) ∧ u.mem.read (stackAt 0xFE) = t.mem.read (stackAt 0xFE)) ∧
    (∃ t, exec .brk State.reset = .next t ∧ ∃ u : State, u.a = 0x55 ∧ u.sp = t.sp ∧
      ∀ k : Byte, k.toNat < 3 → u.mem.read (stackAt (0xFF - k)) = t.mem.read (stackAt (0xFF - k))) := by
  refine ⟨⟨_, rfl, { State.reset with a := 0x55, sp := 0xFD, mem := [(0x01FE, 0x02), (0x01FF, 0x02)] },
    rfl, rfl, rfl, rfl⟩, ⟨_, rfl,
    { State.reset with a := 0x55, sp := 0xFC, mem := [(0x01FD, 0x30), (0x01FE, 0x02), (0x01FF, 0x02)] },
    rfl, rfl, fun k h => ?_⟩⟩
  obtain rfl | rfl | rfl : k = 0 ∨ k = 1 ∨ k = 2 := by bv_omega
  all_goals rfl

end Sys2Proof.Tests
end

section
/-!
PROOFS. What no step changes: the parameters (00_scope.md R9), and B unless `PLP_LOADS_B` holds (10_state.md R29).
The inversion lemma `exec_effect` is taken apart once for each of the two; a step is the exec of one instruction, and a
run is a chain of steps.
-/

namespace Sys2Proof.Machine

/-! ### Steps and runs -/

/-- A step that answers a state is the exec of some instruction. -/
theorem exists_exec_of_step {s t : State} (h : step s = .next t) : ∃ i, exec i s = .next t := by
  unfold step at h
  split at h
  case h_1 i _ _ => exact ⟨i, h⟩
  case h_2 => cases h

/-- A completed run of `n + 1` steps of any machine is one step that answers a state and a completed run of `n` steps
from there. -/
theorem run_succ_eq_next {M : Host.Core} {n : Nat} {s t : M.State} :
    M.run (n + 1) s = .next t ↔ ∃ u, M.step s = .next u ∧ M.run n u = .next t := by
  rw [Host.Core.run]
  cases M.step s with
  | next _ => simp
  | fault _ => simp
  | refused _ => simp

theorem runsTo_zero {s t : State} : RunsTo 0 s t ↔ s = t :=
  ⟨Host.Outcome.next.inj, congrArg Host.Outcome.next⟩

theorem runsTo_succ {n : Nat} {s t : State} : RunsTo (n + 1) s t ↔ ∃ u, step s = .next u ∧ RunsTo n u t :=
  run_succ_eq_next (M := Sys2Proof.core)

/-! ### The parameters -/

theorem accumulate_cfg (bin : AluResult) (dec : Byte × Bool) (m : Byte) (s : State) :
    (accumulate bin dec m s).cfg = s.cfg := by
  obtain ⟨_, _, _, h⟩ := accumulate_frame bin dec m s
  rw [h]

theorem shiftTarget_cfg (bits : Bool → Byte → Byte × Bool) (t : ShiftTarget) (s : State) :
    (shiftTarget bits t s).cfg = s.cfg := by
  obtain ⟨_, _, h, -, -⟩ := shiftTarget_frame bits t s
  rw [h]; rfl

theorem branch_cfg (taken : Bool) (disp8 : Byte) (s : State) : (branch taken disp8 s).cfg = s.cfg := by
  rw [branch_eq, setPC_cfg]

theorem takeBreak_cfg (s : State) : (takeBreak s).cfg = s.cfg := by rw [takeBreak_eq]

/-- No instruction writes a parameter (R9). -/
theorem Effect.cfg_eq {s t : State} {mn : Mnemonic} {mode : Mode} (h : Effect s mn mode t) : t.cfg = s.cfg := by
  cases h with
  | adc | sbc => exact accumulate_cfg ..
  | asl | lsr | rol | ror => exact shiftTarget_cfg ..
  | bcc | bcs | beq | bne | bmi | bpl | bvc | bvs => exact branch_cfg ..
  | brk => exact takeBreak_cfg s
  | _ => rfl

/-! ### The break flag -/

theorem accumulate_flags_b (bin : AluResult) (dec : Byte × Bool) (m : Byte) (s : State) :
    (accumulate bin dec m s).flags.b = s.flags.b := by
  obtain ⟨_, _, _, h⟩ := accumulate_frame bin dec m s
  rw [h, setZN_b]

theorem shiftTarget_flags_b (bits : Bool → Byte → Byte × Bool) (t : ShiftTarget) (s : State) :
    (shiftTarget bits t s).flags.b = s.flags.b := by
  rw [shiftTarget_eq, setZN_b]

theorem branch_flags (taken : Bool) (disp8 : Byte) (s : State) : (branch taken disp8 s).flags = s.flags := by
  rw [branch_eq, setPC_flags]

theorem takeBreak_flags_b (s : State) : (takeBreak s).flags.b = s.flags.b := by rw [takeBreak_eq]

/-- Loading the flags from a pulled byte leaves B alone without `PLP_LOADS_B` (R284, R265). -/
theorem pulled_b_of_not_loadsB (f : Flags) {loadsB : Bool} (p : Byte) (h : loadsB = false) :
    (f.pulled loadsB p).b = f.b := by
  simp [Flags.pulled, h]

/-- B is written only by PLP and RTI, and by these only under `PLP_LOADS_B` (R29). -/
theorem Effect.flags_b_eq {s t : State} {mn : Mnemonic} {mode : Mode} (h : Effect s mn mode t)
    (hb : mn ∉ [Mnemonic.PLP, .RTI] ∨ s.cfg.plpLoadsB = false) : t.flags.b = s.flags.b := by
  cases h with
  | plp | rti =>
    have hloads : s.cfg.plpLoadsB = false := hb.resolve_left (by decide)
    exact pulled_b_of_not_loadsB s.flags _ hloads
  | adc | sbc => exact accumulate_flags_b ..
  | asl | lsr | rol | ror => exact shiftTarget_flags_b ..
  | bcc | bcs | beq | bne | bmi | bpl | bvc | bvs => exact congrArg Flags.b (branch_flags ..)
  | brk => exact takeBreak_flags_b s
  | _ => rfl

/-! ### One step, and any number of them -/

theorem step_keeps_cfg {s t : State} (h : step s = .next t) : t.cfg = s.cfg := by
  obtain ⟨_, hi⟩ := exists_exec_of_step h
  exact (effect_of_exec hi).cfg_eq

theorem step_keeps_b {s t : State} (h : step s = .next t) (hb : s.cfg.plpLoadsB = false) :
    t.flags.b = s.flags.b := by
  obtain ⟨_, hi⟩ := exists_exec_of_step h
  exact (effect_of_exec hi).flags_b_eq (.inr hb)

theorem runsTo_keeps_cfg {n : Nat} {s t : State} (h : RunsTo n s t) : t.cfg = s.cfg := by
  induction n generalizing s with
  | zero => rw [runsTo_zero.mp h]
  | succ n ih =>
    obtain ⟨u, hstep, hrun⟩ := runsTo_succ.mp h
    exact (ih hrun).trans (step_keeps_cfg hstep)

/-- The hypothesis on `PLP_LOADS_B` reaches the later states because a step keeps the parameters. -/
theorem runsTo_keeps_b {n : Nat} {s t : State} (h : RunsTo n s t) (hb : s.cfg.plpLoadsB = false) :
    t.flags.b = s.flags.b := by
  induction n generalizing s with
  | zero => rw [runsTo_zero.mp h]
  | succ n ih =>
    obtain ⟨u, hstep, hrun⟩ := runsTo_succ.mp h
    have hbu : u.cfg.plpLoadsB = false := by rw [step_keeps_cfg hstep, hb]
    exact (ih hrun hbu).trans (step_keeps_b hstep hb)

end Sys2Proof.Machine

namespace Sys2Proof.Proofs

open Sys2Proof.Machine

/-- Settles O12, by induction on the number of steps: each step keeps the parameters and, without `PLP_LOADS_B`, B. -/
theorem runsKeepParametersAndBreakFlag : Obligations.RunsKeepParametersAndBreakFlag := by
  unfold Obligations.RunsKeepParametersAndBreakFlag
  exact fun _ _ _ h => ⟨runsTo_keeps_cfg h, runsTo_keeps_b h⟩

end Sys2Proof.Proofs
end

section
/-!
PROOFS. The status flags and the registers (10_state.md): no step reads B (R29), I gates nothing (R30), D selects only
arithmetic (R31), which instructions write each flag (R33, R34) and each register (R21 to R24), and the values at
construction and reset (R35).

That a meaning does not depend on a flag is a fact about two states, so these proofs go over the instructions and not
through `Effect`: for most of them the two end states are the same expression, and a lemma is needed only where the
flags decide a branch of the meaning, or are pushed.
-/

namespace Sys2Proof.Machine

open Sys2Proof.Claims

/-! ### Meanings that branch on the flags, from two states that differ in the flags

`g` stands for the view under which the two end states are compared. -/

theorem branch_congr {g : State → State} {s s' : State} {taken : Bool} {disp8 : Byte} (hpc : s'.pc = s.pc)
    (hg : ∀ pc, g (s'.setPC pc) = g (s.setPC pc)) : g (branch taken disp8 s') = g (branch taken disp8 s) := by
  rw [branch_eq, branch_eq, hpc]
  exact hg _

/-- No address depends on the flags. -/
theorem address_setFlags (m : AddressMode) (s : State) (f : Flags) : m.address (s.setFlags f) = m.address s := by
  cases m <;> rfl

theorem operand_setFlags (src : DataSource) (s : State) (f : Flags) : src.operand (s.setFlags f) = src.operand s := by
  cases src with
  | immediate imm8 => rfl
  | memory m => exact congrArg s.read (address_setFlags m s f)

theorem advancePast_setFlags (s : State) (f : Flags) (mode : Mode) :
    (s.setFlags f).advancePast mode = (s.advancePast mode).setFlags f := rfl

theorem addWithCarry_eq (src : DataSource) (s : State) :
    addWithCarry src s =
      accumulate (addBin s.a (src.operand (s.advancePast src.mode)) s.flags.c)
        (addDec s.a (src.operand (s.advancePast src.mode)) s.flags.c)
        (src.operand (s.advancePast src.mode)) (s.advancePast src.mode) := rfl

theorem subtractWithBorrow_eq (src : DataSource) (s : State) :
    subtractWithBorrow src s =
      accumulate (subBin s.a (src.operand (s.advancePast src.mode)) s.flags.c)
        (subDec s.a (src.operand (s.advancePast src.mode)) s.flags.c)
        (src.operand (s.advancePast src.mode)) (s.advancePast src.mode) := rfl

/-- The sum and the draw counter that `accumulate` leaves depend on no flag but D. -/
theorem accumulate_setFlags (bin : AluResult) (dec : Byte × Bool) (m : Byte) (s : State) :
    ∃ (u : State) (r : Byte) (c : Bool), ∀ f : Flags, f.d = s.flags.d →
      accumulate bin dec m (s.setFlags f) = (u.setFlags f).setSum r c bin.overflow := by
  cases hd : s.flags.d with
  | false => exact ⟨s, bin.result, bin.carry, fun f hf => accumulate_binary _ _ _ _ hf⟩
  | true =>
    cases hdraw : s.drawsOn m with
    | false => exact ⟨s, dec.1, dec.2, fun f hf => accumulate_decimal _ _ _ _ hf hdraw⟩
    | true =>
      exact ⟨s.countDraw, Config.freeByte s.draws, Config.freeBit s.draws,
        fun f hf => accumulate_drawn _ _ _ (s.setFlags f) hf hdraw⟩

section

variable {g : State → State} {s : State} {f : Flags} (hd : f.d = s.flags.d) (hc : f.c = s.flags.c)
  (hg : ∀ (u : State) (r : Byte) (c v : Bool),
    g ((u.setFlags f).setSum r c v) = g ((u.setFlags s.flags).setSum r c v))

include hd hg

theorem accumulate_congr (bin : AluResult) (dec : Byte × Bool) (m : Byte) :
    g (accumulate bin dec m (s.setFlags f)) = g (accumulate bin dec m s) := by
  obtain ⟨u, r, c, h⟩ := accumulate_setFlags bin dec m s
  calc g (accumulate bin dec m (s.setFlags f))
    _ = g ((u.setFlags f).setSum r c bin.overflow) := congrArg g (h f hd)
    _ = g ((u.setFlags s.flags).setSum r c bin.overflow) := hg u r c bin.overflow
    _ = g (accumulate bin dec m s) := congrArg g (h s.flags rfl).symm

include hc

theorem addWithCarry_congr {src : DataSource} :
    g (addWithCarry src (s.setFlags f)) = g (addWithCarry src s) := by
  rw [addWithCarry_eq, addWithCarry_eq src s, advancePast_setFlags, operand_setFlags, setFlags_a, setFlags_flags, hc]
  exact accumulate_congr (s := s.advancePast src.mode) hd hg ..

theorem subtractWithBorrow_congr {src : DataSource} :
    g (subtractWithBorrow src (s.setFlags f)) = g (subtractWithBorrow src s) := by
  rw [subtractWithBorrow_eq, subtractWithBorrow_eq src s, advancePast_setFlags, operand_setFlags, setFlags_a,
    setFlags_flags, hc]
  exact accumulate_congr (s := s.advancePast src.mode) hd hg ..

end

/-! ### B -/

/-- The pushed byte has bit 4 set whatever B holds (R283). -/
theorem pushedByte_withB (b : Bool) (s : State) : (withB b s).flags.pushedByte = s.flags.pushedByte := by
  rw [pushedByte_eq, pushedByte_eq]
  rfl

theorem breakMemory_withB (b : Bool) (s : State) : breakMemory (withB b s) = breakMemory s := by
  unfold breakMemory
  rw [pushedByte_withB]
  rfl

theorem exec_withB (i : Instr) (b : Bool) (s : State) :
    mapNext (withB false) (exec i (withB b s)) = mapNext (withB false) (exec i s) := by
  cases i with
  | adcImmediate | adcZeroPage | adcZeroPageX | adcAbsolute | adcAbsoluteX | adcAbsoluteY | adcIndirectX
  | adcIndirectY =>
    exact congrArg Host.Outcome.next (addWithCarry_congr (g := withB false) (s := s)
      (f := { s.flags with b := b }) rfl rfl fun _ _ _ _ => rfl)
  | sbcImmediate | sbcZeroPage | sbcZeroPageX | sbcAbsolute | sbcAbsoluteX | sbcAbsoluteY | sbcIndirectX
  | sbcIndirectY =>
    exact congrArg Host.Outcome.next (subtractWithBorrow_congr (g := withB false) (s := s)
      (f := { s.flags with b := b }) rfl rfl fun _ _ _ _ => rfl)
  | bcc | bcs | beq | bne | bmi | bpl | bvc | bvs =>
    exact congrArg Host.Outcome.next (branch_congr rfl fun _ => rfl)
  | php =>
    have hpush : withB false (((withB b s).advance 1).push (withB b s).flags.pushedByte) =
        withB false ((s.advance 1).push s.flags.pushedByte) := by
      rw [pushedByte_withB]
      rfl
    exact congrArg Host.Outcome.next hpush
  | brk =>
    have hbreak : withB false (takeBreak (withB b s)) = withB false (takeBreak s) := by
      rw [takeBreak_eq, takeBreak_eq, breakMemory_withB]
      rfl
    exact congrArg Host.Outcome.next hbreak
  | _ => rfl

/-- The fetch and the decoder do not see the flags. -/
theorem decode_fetch_withB (b : Bool) (s : State) :
    decode (withB b s).cfg (fetchInstruction (withB b s)) = decode s.cfg (fetchInstruction s) := rfl

theorem step_withB (b : Bool) (s : State) :
    mapNext (withB false) (step (withB b s)) = mapNext (withB false) (step s) := by
  unfold step
  rw [decode_fetch_withB]
  cases decode s.cfg (fetchInstruction s) with
  | instr i _ => exact exec_withB i b s
  | rejected _ => rfl

/-! ### I and D -/

theorem exec_withI {i : Instr} (b : Bool) (s : State) (hphp : i.mnemonic ≠ .PHP) (hbrk : i.mnemonic ≠ .BRK) :
    mapNext (withI false) (exec i (withI b s)) = mapNext (withI false) (exec i s) := by
  cases i with
  | adcImmediate | adcZeroPage | adcZeroPageX | adcAbsolute | adcAbsoluteX | adcAbsoluteY | adcIndirectX
  | adcIndirectY =>
    exact congrArg Host.Outcome.next (addWithCarry_congr (g := withI false) (s := s)
      (f := { s.flags with i := b }) rfl rfl fun _ _ _ _ => rfl)
  | sbcImmediate | sbcZeroPage | sbcZeroPageX | sbcAbsolute | sbcAbsoluteX | sbcAbsoluteY | sbcIndirectX
  | sbcIndirectY =>
    exact congrArg Host.Outcome.next (subtractWithBorrow_congr (g := withI false) (s := s)
      (f := { s.flags with i := b }) rfl rfl fun _ _ _ _ => rfl)
  | bcc | bcs | beq | bne | bmi | bpl | bvc | bvs =>
    exact congrArg Host.Outcome.next (branch_congr rfl fun _ => rfl)
  | php => exact absurd rfl hphp
  | brk => exact absurd rfl hbrk
  | _ => rfl

theorem exec_withD {i : Instr} (b : Bool) (s : State) (hadc : i.mnemonic ≠ .ADC) (hsbc : i.mnemonic ≠ .SBC)
    (hphp : i.mnemonic ≠ .PHP) (hbrk : i.mnemonic ≠ .BRK) :
    mapNext (withD false) (exec i (withD b s)) = mapNext (withD false) (exec i s) := by
  cases i with
  | adcImmediate | adcZeroPage | adcZeroPageX | adcAbsolute | adcAbsoluteX | adcAbsoluteY | adcIndirectX
  | adcIndirectY => exact absurd rfl hadc
  | sbcImmediate | sbcZeroPage | sbcZeroPageX | sbcAbsolute | sbcAbsoluteX | sbcAbsoluteY | sbcIndirectX
  | sbcIndirectY => exact absurd rfl hsbc
  | bcc | bcs | beq | bne | bmi | bpl | bvc | bvs =>
    exact congrArg Host.Outcome.next (branch_congr rfl fun _ => rfl)
  | php => exact absurd rfl hphp
  | brk => exact absurd rfl hbrk
  | _ => rfl

/-! ### Which flags an instruction writes -/

theorem accumulate_flags_i (bin : AluResult) (dec : Byte × Bool) (m : Byte) (s : State) :
    (accumulate bin dec m s).flags.i = s.flags.i := by
  obtain ⟨_, _, _, h⟩ := accumulate_frame bin dec m s
  rw [h, setZN_i]

theorem accumulate_flags_d (bin : AluResult) (dec : Byte × Bool) (m : Byte) (s : State) :
    (accumulate bin dec m s).flags.d = s.flags.d := by
  obtain ⟨_, _, _, h⟩ := accumulate_frame bin dec m s
  rw [h, setZN_d]

theorem takeBreak_flags (s : State) : (takeBreak s).flags = { s.flags with i := true } := by rw [takeBreak_eq]

section

variable {s t : State} {mn : Mnemonic} {mode : Mode}

theorem Effect.flags_z_n_eq (h : Effect s mn mode t) (hmn : mn ∉ writesZN) :
    t.flags.z = s.flags.z ∧ t.flags.n = s.flags.n := by
  cases h with
  | lda | ldx | ldy | tax | tay | txa | tya | tsx | pla | inc | dec | inx | iny | dex | dey | and | ora | eor | adc
  | sbc | asl | lsr | rol | ror | cmp | cpx | cpy | bit | plp | rti => exact absurd (by decide) hmn
  | bcc | bcs | beq | bne | bmi | bpl | bvc | bvs => rw [branch_flags]; exact ⟨rfl, rfl⟩
  | brk => rw [takeBreak_flags]; exact ⟨rfl, rfl⟩
  | _ => exact ⟨rfl, rfl⟩

theorem Effect.flags_c_eq (h : Effect s mn mode t)
    (hmn : mn ∉ [Mnemonic.ADC, .SBC, .ASL, .LSR, .ROL, .ROR, .CMP, .CPX, .CPY, .CLC, .SEC, .PLP, .RTI]) :
    t.flags.c = s.flags.c := by
  cases h with
  | adc | sbc | asl | lsr | rol | ror | cmp | cpx | cpy | clc | sec | plp | rti => exact absurd (by decide) hmn
  | bcc | bcs | beq | bne | bmi | bpl | bvc | bvs => rw [branch_flags]
  | brk => rw [takeBreak_flags]
  | _ => rfl

theorem Effect.flags_v_eq (h : Effect s mn mode t) (hmn : mn ∉ [Mnemonic.ADC, .SBC, .BIT, .CLV, .PLP, .RTI]) :
    t.flags.v = s.flags.v := by
  cases h with
  | adc | sbc | bit | clv | plp | rti => exact absurd (by decide) hmn
  | bcc | bcs | beq | bne | bmi | bpl | bvc | bvs => rw [branch_flags]
  | brk => rw [takeBreak_flags]
  | _ => rfl

theorem Effect.flags_i_eq (h : Effect s mn mode t) (hmn : mn ∉ [Mnemonic.CLI, .SEI, .BRK, .PLP, .RTI]) :
    t.flags.i = s.flags.i := by
  cases h with
  | cli | sei | brk | plp | rti => exact absurd (by decide) hmn
  | adc | sbc => exact accumulate_flags_i ..
  | bcc | bcs | beq | bne | bmi | bpl | bvc | bvs => rw [branch_flags]
  | _ => rfl

theorem Effect.flags_d_eq (h : Effect s mn mode t) (hmn : mn ∉ [Mnemonic.CLD, .SED, .PLP, .RTI]) :
    t.flags.d = s.flags.d := by
  cases h with
  | cld | sed | plp | rti => exact absurd (by decide) hmn
  | adc | sbc => exact accumulate_flags_d ..
  | bcc | bcs | beq | bne | bmi | bpl | bvc | bvs => rw [branch_flags]
  | brk => rw [takeBreak_flags]
  | _ => rfl

end

/-! ### Which registers an instruction writes -/

theorem accumulate_x (bin : AluResult) (dec : Byte × Bool) (m : Byte) (s : State) :
    (accumulate bin dec m s).x = s.x := by
  obtain ⟨_, _, _, h⟩ := accumulate_frame bin dec m s
  rw [h]

theorem accumulate_y (bin : AluResult) (dec : Byte × Bool) (m : Byte) (s : State) :
    (accumulate bin dec m s).y = s.y := by
  obtain ⟨_, _, _, h⟩ := accumulate_frame bin dec m s
  rw [h]

theorem accumulate_sp (bin : AluResult) (dec : Byte × Bool) (m : Byte) (s : State) :
    (accumulate bin dec m s).sp = s.sp := by
  obtain ⟨_, _, _, h⟩ := accumulate_frame bin dec m s
  rw [h]

/-- A shift on memory keeps A (R195). -/
theorem shiftTarget_a (bits : Bool → Byte → Byte × Bool) {t : ShiftTarget} (s : State)
    (ht : t.mode ≠ .accumulator) : (shiftTarget bits t s).a = s.a := by
  obtain ⟨_, _, -, ha, -⟩ := shiftTarget_frame bits t s
  exact ha ht

theorem shiftTarget_x (bits : Bool → Byte → Byte × Bool) (t : ShiftTarget) (s : State) :
    (shiftTarget bits t s).x = s.x := by
  obtain ⟨_, _, h, -, -⟩ := shiftTarget_frame bits t s
  rw [h]; rfl

theorem shiftTarget_y (bits : Bool → Byte → Byte × Bool) (t : ShiftTarget) (s : State) :
    (shiftTarget bits t s).y = s.y := by
  obtain ⟨_, _, h, -, -⟩ := shiftTarget_frame bits t s
  rw [h]; rfl

theorem shiftTarget_sp (bits : Bool → Byte → Byte × Bool) (t : ShiftTarget) (s : State) :
    (shiftTarget bits t s).sp = s.sp := by
  obtain ⟨_, _, h, -, -⟩ := shiftTarget_frame bits t s
  rw [h]; rfl

section

variable {s t : State} {mn : Mnemonic} {mode : Mode}

theorem Effect.a_eq (h : Effect s mn mode t)
    (hmn : mn ∉ [Mnemonic.LDA, .PLA, .TXA, .TYA, .ADC, .SBC, .AND, .ORA, .EOR]) (hmode : mode ≠ .accumulator) :
    t.a = s.a := by
  cases h with
  | lda | pla | txa | tya | adc | sbc | and | ora | eor => exact absurd (by decide) hmn
  | asl | lsr | rol | ror => exact shiftTarget_a _ _ hmode
  | bcc | bcs | beq | bne | bmi | bpl | bvc | bvs => rw [branch_eq, setPC_a]
  | brk => rw [takeBreak_eq]
  | _ => rfl

theorem Effect.x_eq (h : Effect s mn mode t) (hmn : mn ∉ [Mnemonic.LDX, .TAX, .TSX, .INX, .DEX]) : t.x = s.x := by
  cases h with
  | ldx | tax | tsx | inx | dex => exact absurd (by decide) hmn
  | adc | sbc => exact accumulate_x ..
  | asl | lsr | rol | ror => exact shiftTarget_x ..
  | bcc | bcs | beq | bne | bmi | bpl | bvc | bvs => rw [branch_eq, setPC_x]
  | brk => rw [takeBreak_eq]
  | _ => rfl

theorem Effect.y_eq (h : Effect s mn mode t) (hmn : mn ∉ [Mnemonic.LDY, .TAY, .INY, .DEY]) : t.y = s.y := by
  cases h with
  | ldy | tay | iny | dey => exact absurd (by decide) hmn
  | adc | sbc => exact accumulate_y ..
  | asl | lsr | rol | ror => exact shiftTarget_y ..
  | bcc | bcs | beq | bne | bmi | bpl | bvc | bvs => rw [branch_eq, setPC_y]
  | brk => rw [takeBreak_eq]
  | _ => rfl

theorem Effect.sp_eq (h : Effect s mn mode t)
    (hmn : mn ∉ [Mnemonic.TXS, .PHA, .PHP, .PLA, .PLP, .JSR, .RTS, .BRK, .RTI]) : t.sp = s.sp := by
  cases h with
  | txs | pha | php | pla | plp | jsr | rts | brk | rti => exact absurd (by decide) hmn
  | adc | sbc => exact accumulate_sp ..
  | asl | lsr | rol | ror => exact shiftTarget_sp ..
  | bcc | bcs | beq | bne | bmi | bpl | bvc | bvs => rw [branch_eq, setPC_sp]
  | _ => rfl

end

/-! ### The byte view -/

/-- A byte's value from its eight bits. -/
theorem toNat_eq_sum_bits (p : Byte) :
    p.toNat = 128 * bit (p.getLsbD 7) + 64 * bit (p.getLsbD 6) + 32 * bit (p.getLsbD 5) + 16 * bit (p.getLsbD 4) +
      8 * bit (p.getLsbD 3) + 4 * bit (p.getLsbD 2) + 2 * bit (p.getLsbD 1) + bit (p.getLsbD 0) := by
  revert p
  decide

theorem byteView_toNat (f : Flags) : f.byteView.toNat = pValue f := by
  obtain ⟨h7, h6, h5, h4, h3, h2, h1, h0⟩ := byteView_bits f
  rw [toNat_eq_sum_bits, h7, h6, h5, h4, h3, h2, h1, h0]
  rfl

/-- Bit 5 of the byte view always reads 1 (R28). -/
theorem byteView_bit_five (f : Flags) : f.byteView.getLsbD 5 = true := by
  obtain ⟨-, -, h5, -⟩ := byteView_bits f
  exact h5

/-! ### Construction and reset -/

/-- What construction builds, when it builds a state (R350). -/
theorem eq_of_construct_built {p : Params} {s : State} (h : construct p = .built s) :
    s = { State.reset with
      mem := (Memory.filled p.initFill).loadImage p.image
      cfg := p.cfg }.withProcessor (p.initState.getD (InitState.default p.resetPc)) := by
  unfold construct at h
  split at h
  case h_1 => cases h
  case h_2 => exact (Constructed.built.inj h).symm

theorem byteView_allClear : allClear.byteView = 0x20 := by decide

/-- The processor state after a reset (R35, R352). -/
theorem resetTo_processor (s : State) (resetPc : Word) :
    (s.resetTo resetPc).a = 0 ∧ (s.resetTo resetPc).x = 0 ∧ (s.resetTo resetPc).y = 0 ∧
    (s.resetTo resetPc).sp = 0xFF ∧ (s.resetTo resetPc).pc = resetPc ∧ (s.resetTo resetPc).flags = allClear ∧
    (s.resetTo resetPc).flags.byteView = 0x20 :=
  ⟨rfl, rfl, rfl, rfl, rfl, rfl, byteView_allClear⟩

end Sys2Proof.Machine

namespace Sys2Proof.Proofs

open Sys2Proof.Machine

/-- Settles O13: a step fetches and decodes without the flags, and no instruction's meaning depends on B. -/
theorem noStepReadsTheBreakFlag : Obligations.NoStepReadsTheBreakFlag := by
  unfold Obligations.NoStepReadsTheBreakFlag
  exact step_withB

/-- Settles O14, over the instructions: only ADC, SBC and the branches need more than the two end states' being the
same expression. -/
theorem interruptFlagGatesNothing : Obligations.InterruptFlagGatesNothing := by
  unfold Obligations.InterruptFlagGatesNothing
  exact fun _ b s hphp hbrk => exec_withI b s hphp hbrk

/-- Settles O15, over the instructions: only the branches need more than the two end states' being the same
expression. -/
theorem decimalFlagSelectsOnlyArithmetic : Obligations.DecimalFlagSelectsOnlyArithmetic := by
  unfold Obligations.DecimalFlagSelectsOnlyArithmetic
  intro i b s hi
  simp only [List.mem_cons, List.not_mem_nil, or_false, not_or] at hi
  obtain ⟨hadc, hsbc, hphp, hbrk⟩ := hi
  exact exec_withD b s hadc hsbc hphp hbrk

/-- Settles O16: one frame lemma about `Effect` per column of the flag matrix. -/
theorem flagsKeptByAllOtherInstructions : Obligations.FlagsKeptByAllOtherInstructions := by
  unfold Obligations.FlagsKeptByAllOtherInstructions
  intro i s t h
  have he := effect_of_exec h
  exact ⟨he.flags_z_n_eq, he.flags_c_eq, he.flags_v_eq, he.flags_i_eq, he.flags_d_eq, he.flags_b_eq⟩

/-- Settles O17: one frame lemma about `Effect` per register. -/
theorem registersKeptByAllOtherInstructions : Obligations.RegistersKeptByAllOtherInstructions := by
  unfold Obligations.RegistersKeptByAllOtherInstructions
  intro i s t h
  have he := effect_of_exec h
  exact ⟨he.a_eq, he.x_eq, he.y_eq, he.sp_eq⟩

/-- Settles O20: a construction without `INIT_STATE` is a reset of the filled and loaded machine. -/
theorem constructionSetsTheProcessorState : Obligations.ConstructionSetsTheProcessorState := by
  unfold Obligations.ConstructionSetsTheProcessorState
  refine ⟨fun p s h => ⟨fun hnone => ?_, fun q hsome => ?_⟩, resetTo_processor⟩
  · rw [eq_of_construct_built h, hnone]
    exact resetTo_processor _ p.resetPc
  · rw [eq_of_construct_built h, hsome]
    exact ⟨rfl, rfl, rfl, rfl, rfl, rfl, byteView_bit_five q.flags⟩

/-- Settles O24: with nothing to fill and nothing to load, construction computes to the reset state. -/
theorem initialStateIsADefaultConstruction : Obligations.InitialStateIsADefaultConstruction := by
  unfold Obligations.InitialStateIsADefaultConstruction
  exact ⟨rfl, read_nil⟩

/-- Settles O26, from the eight bits of the byte view. -/
theorem byteViewHasTheDocumentedLayout : Obligations.ByteViewHasTheDocumentedLayout := by
  unfold Obligations.ByteViewHasTheDocumentedLayout
  exact fun f => ⟨byteView_toNat f, byteView_bit_five f⟩

end Sys2Proof.Proofs
end

section
/-!
PROOFS. Memory (20_memory.md): every step keeps the canonical form (R50, R51), which instructions store and where the
pushes stay (R57, R59), and what construction loads (R63). The frame and the invariant take `Effect` apart; what a
loaded image reads as is an induction over a segment's bytes, then over the segments.
-/

namespace Sys2Proof.Machine

open Sys2Proof.Claims

/-! ### What the shared operations do to memory -/

theorem branch_mem (taken : Bool) (disp8 : Byte) (s : State) : (branch taken disp8 s).mem = s.mem := by
  rw [branch_eq, setPC_mem]

theorem takeBreak_mem (s : State) : (takeBreak s).mem = breakMemory s := by rw [takeBreak_eq]

theorem callSubroutine_mem (addr16 : Word) (s : State) :
    (callSubroutine addr16 s).mem = (s.pushWord (s.pc + 3 - 1)).mem := by
  rw [callSubroutine_eq, pushWord_eq]

/-- A shift in its Accumulator form keeps memory (R195). -/
theorem shiftTarget_mem (bits : Bool → Byte → Byte × Bool) {t : ShiftTarget} (s : State)
    (ht : t.mode = .accumulator) : (shiftTarget bits t s).mem = s.mem := by
  obtain ⟨_, _, -, -, hm⟩ := shiftTarget_frame bits t s
  exact hm ht

theorem wf_shiftTarget (bits : Bool → Byte → Byte × Bool) (t : ShiftTarget) {s : State} (hs : s.mem.wf = true) :
    (shiftTarget bits t s).mem.wf = true := by
  rw [shiftTarget_eq]
  exact wf_store_target t _ (s := s.advancePast t.mode) hs

theorem wf_pushWord {s : State} (w : Word) (hs : s.mem.wf = true) : (s.pushWord w).mem.wf = true :=
  wf_push _ (wf_push _ hs)

theorem returnFromInterrupt_mem (s : State) : (returnFromInterrupt s).mem = s.mem := by rw [returnFromInterrupt_eq]

/-! ### The canonical form -/

/-- Every instruction keeps memory in canonical form: what it writes, it writes byte by byte (R51). -/
theorem Effect.wf_mem {s t : State} {mn : Mnemonic} {mode : Mode} (h : Effect s mn mode t) (hs : s.mem.wf = true) :
    t.mem.wf = true := by
  cases h with
  | sta | stx | sty | inc | dec => exact wf_write _ _ hs
  | asl | lsr | rol | ror => exact wf_shiftTarget _ _ hs
  | pha | php => exact wf_push _ (s := s.advance 1) hs
  | jsr => rw [callSubroutine_mem]; exact wf_pushWord _ hs
  | brk => rw [takeBreak_mem]; exact wf_breakMemory hs
  | adc | sbc => exact (accumulate_mem ..).symm ▸ hs
  | bcc | bcs | beq | bne | bmi | bpl | bvc | bvs => rw [branch_mem]; exact hs
  | rti => rw [returnFromInterrupt_mem]; exact hs
  | _ => exact hs

theorem step_keeps_inv {s t : State} (hs : s.Inv) (h : step s = .next t) : t.Inv := by
  obtain ⟨_, hi⟩ := exists_exec_of_step h
  exact (effect_of_exec hi).wf_mem hs

/-! ### Which instructions write memory, and where the pushes write -/

/-- Only the stores, the read-modify-write forms on memory and the pushes write memory. -/
theorem Effect.mem_eq {s t : State} {mn : Mnemonic} {mode : Mode} (h : Effect s mn mode t)
    (hmn : mn ∉ [Mnemonic.STA, .STX, .STY, .INC, .DEC, .ASL, .LSR, .ROL, .ROR, .PHA, .PHP, .JSR, .BRK] ∨
      mode = .accumulator) : t.mem = s.mem := by
  cases h with
  | sta m | stx m | sty m | inc m | dec m =>
    exact absurd (hmn.resolve_left (not_not_intro (by decide))) (addressMode_ne_accumulator m)
  | asl | lsr | rol | ror => exact shiftTarget_mem _ s (hmn.resolve_left (not_not_intro (by decide)))
  | pha | php | jsr | brk => exact absurd hmn (by decide)
  | adc | sbc => exact accumulate_mem ..
  | bcc | bcs | beq | bne | bmi | bpl | bvc | bvs => exact branch_mem ..
  | rti => exact returnFromInterrupt_mem _
  | _ => rfl

section

variable {addr : Word} (haddr : addr.toNat < 0x0100 ∨ 0x01FF < addr.toNat)

include haddr

theorem ne_stackAddress (sp : Byte) : addr ≠ stackAddress sp := by
  rintro rfl
  rw [stackAddress_toNat] at haddr
  have := sp.isLt
  omega

/-- A push changes no byte outside page 0x01 (R57, R59). -/
theorem read_push_outside (s : State) (v : Byte) : (s.push v).mem.read addr = s.mem.read addr :=
  read_write_other s.mem v (ne_stackAddress haddr s.sp)

theorem read_pushWord_outside (s : State) (w : Word) : (s.pushWord w).mem.read addr = s.mem.read addr :=
  (read_push_outside haddr _ _).trans (read_push_outside haddr s _)

theorem read_breakMemory_outside (s : State) : (breakMemory s).read addr = s.mem.read addr :=
  (read_push_outside haddr (s.pushWord (s.pc + 2)) _).trans (read_pushWord_outside haddr s _)

theorem Effect.read_outside {s t : State} {mn : Mnemonic} {mode : Mode} (h : Effect s mn mode t)
    (hmn : mn ∈ [Mnemonic.PHA, .PHP, .JSR, .BRK]) : t.mem.read addr = s.mem.read addr := by
  cases h with
  | pha | php => exact read_push_outside haddr (s.advance 1) _
  | jsr => rw [callSubroutine_mem, read_pushWord_outside haddr]
  | brk => rw [takeBreak_mem, read_breakMemory_outside haddr]
  | _ => exact absurd hmn (by decide)

end

/-! ### What a loaded image reads as -/

/-- Reading after a block of bytes that stays below 65,536 is written: the block's byte inside, the old byte outside.
The address after 0xFFFF wraps to 0, but no byte of the block is left by then. -/
theorem read_writeBytes (bytes : List Byte) (m : Memory) (offset addr : Word)
    (hfits : offset.toNat + bytes.length ≤ 65536) :
    (m.writeBytes offset bytes).read addr =
      if offset.toNat ≤ addr.toNat ∧ addr.toNat < offset.toNat + bytes.length then
        bytes.getD (addr.toNat - offset.toNat) 0
      else m.read addr := by
  induction bytes generalizing m offset with
  | nil => exact (if_neg (by simp)).symm
  | cons b bytes ih =>
    have hnext : (offset + 1).toNat = (offset.toNat + 1) % 65536 := BitVec.toNat_add offset 1
    rw [List.length_cons] at hfits ⊢
    rw [Memory.writeBytes, ih _ _ (by omega), read_write]
    by_cases hhead : addr = offset
    · subst hhead
      rw [if_neg (by omega), if_pos rfl, if_pos (by omega), Nat.sub_self, List.getD_cons_zero]
    · have hne : addr.toNat ≠ offset.toNat := fun h => hhead (BitVec.eq_of_toNat_eq h)
      by_cases htail : offset.toNat < addr.toNat ∧ addr.toNat < offset.toNat + (bytes.length + 1)
      · have hindex : addr.toNat - offset.toNat = addr.toNat - (offset + 1).toNat + 1 := by omega
        rw [if_pos (by omega), if_pos (by omega), hindex, List.getD_cons_succ]
      · rw [if_neg (by omega), if_neg hhead, if_neg (by omega)]

/-- Segments written in list order read as `imageByte` says (R63). -/
theorem read_loadImage (image : List Segment) (m : Memory) (addr : Word)
    (hfits : ∀ seg ∈ image, seg.offset.toNat + seg.bytes.length ≤ 65536) :
    (m.loadImage image).read addr = imageByte (m.read addr) image addr.toNat := by
  induction image generalizing m with
  | nil => rfl
  | cons seg image ih =>
    obtain ⟨hseg, himage⟩ := List.forall_mem_cons.mp hfits
    calc (m.loadImage (seg :: image)).read addr
      _ = imageByte ((m.writeBytes seg.offset seg.bytes).read addr) image addr.toNat := ih _ himage
      _ = imageByte (m.read addr) (seg :: image) addr.toNat := by
        rw [read_writeBytes seg.bytes m seg.offset addr hseg]
        rfl

/-- Construction builds a state only from an image whose segments all stay below 65,536 (R322). -/
theorem fits_of_construct_built {p : Params} {s : State} (h : construct p = .built s) :
    ∀ seg ∈ p.image, seg.offset.toNat + seg.bytes.length ≤ 65536 := by
  unfold construct at h
  split at h
  case h_1 => cases h
  case h_2 hnone =>
    intro seg hmem
    simpa [Segment.fits] using List.find?_eq_none.mp hnone seg hmem

theorem construct_mem {p : Params} {s : State} (h : construct p = .built s) :
    s.mem = (Memory.filled p.initFill).loadImage p.image := by
  rw [eq_of_construct_built h]
  rfl

theorem construct_cfg {p : Params} {s : State} (h : construct p = .built s) : s.cfg = p.cfg := by
  rw [eq_of_construct_built h]
  rfl

theorem construct_inv {p : Params} {s : State} (h : construct p = .built s) : s.Inv := by
  rw [State.Inv, construct_mem h]
  exact wf_loadImage p.image (wf_filled p.initFill)

theorem construct_read {p : Params} {s : State} (h : construct p = .built s) (addr : Word) :
    s.mem.read addr = imageByte p.initFill p.image addr.toNat := by
  rw [construct_mem h, read_loadImage p.image _ addr (fits_of_construct_built h), read_filled]

end Sys2Proof.Machine

namespace Sys2Proof.Proofs

open Sys2Proof.Machine

/-- Settles O11: a step is the exec of one instruction, and no instruction's effect leaves the canonical form. -/
theorem stepKeepsTheInvariant : Obligations.StepKeepsTheInvariant := by
  unfold Obligations.StepKeepsTheInvariant
  exact fun _ _ => step_keeps_inv

/-- Settles O18: the two memories are equal, so every byte is. -/
theorem memoryKeptByInstructionsThatStoreNothing : Obligations.MemoryKeptByInstructionsThatStoreNothing := by
  unfold Obligations.MemoryKeptByInstructionsThatStoreNothing
  intro i s t h hi addr
  rw [(effect_of_exec h).mem_eq hi]

/-- Settles O19: every push writes at a stack address, and these lie in page 0x01. -/
theorem pushesStayInTheStackPage : Obligations.PushesStayInTheStackPage := by
  unfold Obligations.PushesStayInTheStackPage
  intro i s t h hi addr haddr
  exact (effect_of_exec h).read_outside haddr hi

/-- Settles O22: the fill reads as `INIT_FILL` everywhere, and each segment written over it stays below 65,536, since
construction built a state. -/
theorem constructionLoadsTheImage : Obligations.ConstructionLoadsTheImage := by
  unfold Obligations.ConstructionLoadsTheImage
  exact fun _ _ h => ⟨construct_cfg h, construct_inv h, construct_read h⟩

/-- Settles O10: memory that lists nothing is in canonical form. -/
theorem resetMeetsTheInvariant : Obligations.ResetMeetsTheInvariant := by
  unfold Obligations.ResetMeetsTheInvariant
  rfl

end Sys2Proof.Proofs
end

section
/-!
PROOFS. The encoding (30_encoding.md): decoding and encoding undo each other (R81 to R84, R105), DecodeError stands
for exactly the bytes without a descriptor (R85, R266), a step executes what the bytes at PC decode to (R84, R356), and
what address each mode gives (R92 to R101).
-/

namespace Sys2Proof

/-! ### A row of the opcode map: its operand bytes and its instruction -/

theorem loByte_wordOf (hi lo : Byte) : loByte (wordOf hi lo) = lo := by
  have := lo.isLt
  exact BitVec.eq_of_toNat_eq (by rw [loByte_toNat, wordOf_toNat]; omega)

theorem hiByte_wordOf (hi lo : Byte) : hiByte (wordOf hi lo) = hi := by
  have := lo.isLt
  exact BitVec.eq_of_toNat_eq (by rw [hiByte_toNat, wordOf_toNat]; omega)

/-- The operand bytes of a row, where `b1` and `b2` are the two bytes after the opcode (R82). -/
def Row.operands (b1 b2 : Byte) : Row → List Byte
  | .f1 _ => []
  | .f2 _ => [b1]
  | .f3 _ => [b1, b2]

/-- The instruction of a row, where `b1` and `b2` are the two bytes after the opcode (R82). -/
def Row.instr (b1 b2 : Byte) : Row → Instr
  | .f1 i => i
  | .f2 i => i b1
  | .f3 i => i (wordOf b2 b1)

theorem Row.parse_operands (op b1 b2 : Byte) (row : Row) (rest : List Byte) :
    row.parse op (row.operands b1 b2 ++ rest) = .instr (row.instr b1 b2) rest := by
  cases row <;> rfl

/-- A row reads an instruction only from its operand bytes, and leaves what follows them. -/
theorem Row.eq_of_parse {op : Byte} {row : Row} {bytes rest : List Byte} {i : Instr}
    (h : row.parse op bytes = .instr i rest) :
    ∃ b1 b2, bytes = row.operands b1 b2 ++ rest ∧ i = row.instr b1 b2 := by
  match row, bytes with
  | .f1 _, _ => cases h; exact ⟨0, 0, rfl, rfl⟩
  | .f2 _, b1 :: _ => cases h; exact ⟨b1, 0, rfl, rfl⟩
  | .f3 _, b1 :: b2 :: _ => cases h; exact ⟨b1, b2, rfl, rfl⟩

/-! ### The encoder and the opcode map -/

/-- Every row of the opcode map stands at the opcode byte that the encoder writes for its instructions (R105): one
case per row, where the number it stands at is that of the byte. -/
theorem encode_instr {op : Byte} {row : Row} (h : opcodeMap op = some row) (b1 b2 : Byte) :
    encode (row.instr b1 b2) = op :: row.operands b1 b2 := by
  have hop : BitVec.ofNat 8 op.toNat = op := by simp
  rw [← hop]
  unfold opcodeMap at h
  split at h <;> cases h
  all_goals
    rw [‹op.toNat = _›]
    simp only [Row.instr, Row.operands, encode, loByte_wordOf, hiByte_wordOf, BitVec.ofNat_eq_ofNat]

/-- The row at every instruction's opcode byte reads it back: one case per constructor. The operand bytes of a
three-byte form are the halves of its word. -/
theorem dispatchRow (i : Instr) : Laws.DispatchRow.Statement i := by
  cases i <;> refine ⟨_, _, _, rfl, rfl, fun _ => ?_⟩
  all_goals
    simp only [List.cons_append, List.nil_append, Row.parse, Laws.wordOf_hi_lo]

theorem encodingLength (i : Instr) : Laws.EncodingLength.Statement i := by
  cases i <;> rfl

/-! ### The decoder of a machine with given parameters -/

/-- An instruction is one the machine has exactly if the parameters do not drop its opcode byte (R266). -/
theorem wellFormed_eq_opcode (cfg : Config) (i : Instr) :
    i.wellFormed cfg =
      !(!cfg.brkRtiModelled && ((encode i).headD 0 == 0x00 || (encode i).headD 0 == 0x40)) := by
  have hmnemonic : (i.mnemonic != .BRK && i.mnemonic != .RTI) =
      !((encode i).headD 0 == 0x00 || (encode i).headD 0 == 0x40) := by
    cases i <;> rfl
  rw [Instr.wellFormed, hmnemonic, Bool.not_and, Bool.not_not]

/-- The dispatch table at an instruction's opcode byte: the documented row if the machine has the instruction. -/
theorem dispatchTable_of_encode (cfg : Config) {i : Instr} {op : Byte} {operands : List Byte}
    (h : encode i = op :: operands) :
    dispatchTable cfg op = if i.wellFormed cfg then opcodeMap op else none := by
  rw [wellFormed_eq_opcode, h, List.headD_cons, dispatchTable]
  cases !cfg.brkRtiModelled && (op == 0x00 || op == 0x40) <;> rfl

/-- A machine has no rows but the documented ones. -/
theorem opcodeMap_of_dispatchTable {cfg : Config} {op : Byte} {row : Row} (h : dispatchTable cfg op = some row) :
    opcodeMap op = some row := by
  unfold dispatchTable at h
  split at h
  · cases h
  · exact h

theorem decode_cons_of_row {cfg : Config} {op : Byte} {row : Row} (h : dispatchTable cfg op = some row)
    (bytes : List Byte) : decode cfg (op :: bytes) = row.parse op bytes := by
  rw [decode, h]

theorem decode_cons_of_none {cfg : Config} {op : Byte} (h : dispatchTable cfg op = none) (bytes : List Byte) :
    decode cfg (op :: bytes) = .rejected (.undefinedOpcode op) := by
  rw [decode, h]

/-- What decodes begins with an opcode byte that has a row, and this row reads the rest. -/
theorem exists_row_of_decode {cfg : Config} {op : Byte} {bytes rest : List Byte} {i : Instr}
    (h : decode cfg (op :: bytes) = .instr i rest) :
    ∃ row, dispatchTable cfg op = some row ∧ row.parse op bytes = .instr i rest := by
  cases hrow : dispatchTable cfg op with
  | none => rw [decode_cons_of_none hrow] at h; cases h
  | some row => exact ⟨row, rfl, (decode_cons_of_row hrow bytes).symm.trans h⟩

theorem decode_encode {cfg : Config} {i : Instr} (hi : i.wellFormed cfg = true) (rest : List Byte) :
    decode cfg (encode i ++ rest) = .instr i rest := by
  obtain ⟨op, operands, row, hencode, hrow, hparse⟩ := dispatchRow i
  have htable : dispatchTable cfg op = some row := by
    rw [dispatchTable_of_encode cfg hencode, if_pos hi, hrow]
  calc decode cfg (encode i ++ rest)
    _ = decode cfg (op :: (operands ++ rest)) := by rw [hencode, List.cons_append]
    _ = row.parse op (operands ++ rest) := decode_cons_of_row htable _
    _ = .instr i rest := hparse rest

theorem encode_of_decode {cfg : Config} {bytes rest : List Byte} {i : Instr}
    (h : decode cfg bytes = .instr i rest) : bytes = encode i ++ rest ∧ i.wellFormed cfg = true := by
  match bytes with
  | [] => cases h
  | op :: operands =>
    obtain ⟨row, htable, hparse⟩ := exists_row_of_decode h
    obtain ⟨b1, b2, rfl, rfl⟩ := Row.eq_of_parse hparse
    have hencode := encode_instr (opcodeMap_of_dispatchTable htable) b1 b2
    refine ⟨by rw [hencode, List.cons_append], ?_⟩
    by_contra hi
    rw [dispatchTable_of_encode cfg hencode, if_neg hi] at htable
    cases htable

end Sys2Proof

namespace Sys2Proof.Machine

open Sys2Proof.Claims

/-! ### The bytes without a row -/

/-- The documented map leaves out exactly the 105 bytes of R85. -/
theorem opcodeMap_eq_none_iff : ∀ op : Byte, opcodeMap op = none ↔ op ∈ undefinedBytes := by decide

theorem dispatchTable_eq_none_iff (cfg : Config) (op : Byte) : dispatchTable cfg op = none ↔ Undefined cfg op := by
  have hdropped : (!cfg.brkRtiModelled && (op == 0x00 || op == 0x40)) = true ↔
      cfg.brkRtiModelled = false ∧ (op = 0x00 ∨ op = 0x40) := by simp
  rw [dispatchTable, Undefined, ← hdropped, ← opcodeMap_eq_none_iff]
  split
  case isTrue hdrop => exact iff_of_true rfl (.inr hdrop)
  case isFalse hkept => exact (or_iff_left hkept).symm

/-! ### One step -/

theorem past_eq (s : State) (n : Nat) : past s n = s.pc + BitVec.ofNat 16 n := by
  rw [past, BitVec.ofNat_add, BitVec.ofNat_toNat, BitVec.setWidth_eq]

/-- The fetch at a byte that has a row takes this byte and the row's operand bytes (R84, R86). -/
theorem fetchInstruction_of_row {s : State} {row : Row} (h : dispatchTable s.cfg (s.mem.read s.pc) = some row) :
    fetchInstruction s = s.mem.read s.pc :: row.operands (s.mem.read (past s 1)) (s.mem.read (past s 2)) := by
  have hlength : opcodeLength s.cfg (s.read s.pc) = row.length := by
    rw [opcodeLength, State.read, h]
  rw [fetchInstruction, hlength]
  cases row <;> simp [fetchBytes, Row.length, Row.operands, State.read, past_eq, List.range_succ]

theorem step_of_row {s : State} {row : Row} (h : dispatchTable s.cfg (s.mem.read s.pc) = some row) :
    step s = exec (row.instr (s.mem.read (past s 1)) (s.mem.read (past s 2))) s := by
  have hparse := row.parse_operands (s.mem.read s.pc) (s.mem.read (past s 1)) (s.mem.read (past s 2)) []
  rw [List.append_nil] at hparse
  rw [step, fetchInstruction_of_row h, decode_cons_of_row h, hparse]

theorem step_of_no_row {s : State} (h : dispatchTable s.cfg (s.mem.read s.pc) = none) :
    step s = .fault (.decodeError s.pc (s.mem.read s.pc)) := by
  have hlength : opcodeLength s.cfg (s.read s.pc) = 1 := by
    rw [opcodeLength, State.read, h]
  have hfetch : fetchInstruction s = [s.mem.read s.pc] := by
    rw [fetchInstruction, hlength]
    simp [fetchBytes, State.read]
  rw [step, hfetch, decode_cons_of_none h, State.read]

/-! ### Effective addresses -/

theorem wordOf_eq_join (hi lo : Byte) : wordOf hi lo = join hi lo := by
  have := hi.isLt
  have := lo.isLt
  apply BitVec.eq_of_toNat_eq
  rw [wordOf_toNat, join, BitVec.toNat_ofNat]
  omega

theorem zext16_eq_ofNat (v : Byte) : zext16 v = BitVec.ofNat 16 v.toNat := (BitVec.ofNat_toNat 16 v).symm

/-- R53: both bytes of a zero-page pointer come from page 0. -/
theorem readWordZP_eq_join (m : Memory) (zp : Byte) :
    m.readWordZP zp = join (m.read (BitVec.ofNat 16 ((zp.toNat + 1) % 256))) (m.read (BitVec.ofNat 16 zp.toNat)) := by
  rw [Memory.readWordZP, wordOf_eq_join, zext16_eq_ofNat, zext16_eq_ofNat, BitVec.toNat_add]
  rfl

/-- R54: the high byte comes from the page of the low one. -/
theorem readWordPageWrap_eq_join (m : Memory) (w : Word) :
    m.readWordPageWrap w =
      join (m.read (BitVec.ofNat 16 (w.toNat / 256 * 256 + (w.toNat % 256 + 1) % 256))) (m.read w) := by
  have hpage : wordOf (hiByte w) (loByte w + 1) =
      BitVec.ofNat 16 (w.toNat / 256 * 256 + (w.toNat % 256 + 1) % 256) := by
    rw [wordOf_eq_join, join, hiByte_toNat, BitVec.toNat_add, loByte_toNat]
    rfl
  rw [Memory.readWordPageWrap, wordOf_eq_join, hpage]

theorem add_sext16 (w : Word) (b : Byte) : w + sext16 b = BitVec.ofInt 16 (w.toNat + b.toInt) := by
  rw [BitVec.ofInt_add, BitVec.ofInt_natCast, BitVec.ofNat_toNat, BitVec.setWidth_eq]
  rfl

theorem add_zext16_toNat (w : Word) (b : Byte) : (w + zext16 b).toNat = (w.toNat + b.toNat) % 65536 := by
  rw [BitVec.toNat_add, zext16_toNat]

end Sys2Proof.Machine

namespace Sys2Proof.Proofs

open Sys2Proof.Machine Sys2Proof.Claims

/-- Settles O1: the opcode byte selects the row that reads the instruction back, since the machine has it. -/
theorem decodeOfEncodeIsTheInstruction : Obligations.DecodeOfEncodeIsTheInstruction := by
  unfold Obligations.DecodeOfEncodeIsTheInstruction
  exact fun _ _ rest hi => decode_encode hi rest

/-- Settles O2: a row reads an instruction only from its operand bytes, and the encoder writes these after the opcode
byte at which the row stands. -/
theorem encodeOfDecodeIsTheBytes : Obligations.EncodeOfDecodeIsTheBytes := by
  unfold Obligations.EncodeOfDecodeIsTheBytes
  intro cfg bytes rest i h
  obtain ⟨hbytes, hi⟩ := encode_of_decode h
  exact ⟨hbytes, hi, encodingLength i⟩

/-- Settles O5: without a row the fetch is the opcode byte alone and decoding rejects it; with one, the step is the
exec of the row's instruction, which answers a next state. -/
theorem decodeErrorExactlyOnUndefinedBytes : Obligations.DecodeErrorExactlyOnUndefinedBytes := by
  unfold Obligations.DecodeErrorExactlyOnUndefinedBytes
  intro s
  rw [← dispatchTable_eq_none_iff]
  refine ⟨step_of_no_row, fun hdefined => ?_⟩
  obtain ⟨row, hrow⟩ := Option.ne_none_iff_exists'.mp hdefined
  obtain ⟨t, hexec, -⟩ := exec_effect (row.instr (s.mem.read (past s 1)) (s.mem.read (past s 2))) s
  exact ⟨t, (step_of_row hrow).trans hexec⟩

/-- Settles O25, mode by mode; a pointer's two bytes are joined as R53 and R54 say. -/
theorem modesGiveTheirEffectiveAddresses : Obligations.ModesGiveTheirEffectiveAddresses := by
  unfold Obligations.ModesGiveTheirEffectiveAddresses
  intro s b w
  refine ⟨zext16_toNat b, ?zeroPageX, ?zeroPageY, add_sext16 s.pc b, rfl, add_zext16_toNat w s.x,
    add_zext16_toNat w s.y, readWordPageWrap_eq_join s.mem w, ?indirectX, ?indirectY⟩
  case zeroPageX => exact (zext16_toNat _).trans (BitVec.toNat_add b s.x)
  case zeroPageY => exact (zext16_toNat _).trans (BitVec.toNat_add b s.y)
  case indirectX =>
    rw [AddressMode.address, readWordZP_eq_join, BitVec.toNat_add, Nat.mod_add_mod]
  case indirectY =>
    rw [AddressMode.address, add_zext16_toNat, readWordZP_eq_join, ← wordOf_eq_join, wordOf_toNat]

/-- Settles O3: the decoder computes each word's instruction. -/
theorem wordsOfTheOpcodeMapDecode : Obligations.WordsOfTheOpcodeMapDecode := by
  unfold Obligations.WordsOfTheOpcodeMapDecode
  decide

/-- Settles O4: the opcode byte's row reads the instruction from the two bytes after it, and a step executes what this
row reads from them. -/
theorem stepExecutesTheDecodedInstruction : Obligations.StepExecutesTheDecodedInstruction := by
  unfold Obligations.StepExecutesTheDecodedInstruction
  intro s i rest h
  obtain ⟨row, hrow, hparse⟩ := exists_row_of_decode h
  have hi : row.instr (s.mem.read (past s 1)) (s.mem.read (past s 2)) = i := by
    cases row <;> cases hparse <;> rfl
  rw [step_of_row hrow, hi]

end Sys2Proof.Proofs
end

section
/-!
PROOFS. Load and store (40_load_store.md R131 to R136). A form's operand and address are read after PC has advanced
(R88), and only the Relative mode sees that; so each family's meaning is one equation over its operand sources, and
each statement lists its forms' sources.
-/

namespace Sys2Proof.Machine

open Sys2Proof.Claims

/-! ### PC's advance, the operand, and SetZN -/

theorem advancePast_eq (s : State) (mode : Mode) :
    s.advancePast mode = { s with pc := past s (1 + mode.operandLength) } := by
  rw [past_eq]
  rfl

theorem address_advancePast {m : AddressMode} (hm : m.mode ≠ .relative) (s : State) :
    m.address (s.advancePast m.mode) = m.address s :=
  address_advance m s _ hm

/-- An operand that is not addressed relative to PC reads the same before PC advances. -/
theorem operand_advancePast {src : DataSource} (hsrc : src.mode ≠ .relative) (s : State) :
    src.operand (s.advancePast src.mode) = src.operand s := by
  cases src with
  | immediate imm8 => rfl
  | memory m => exact congrArg s.read (address_advancePast hsrc s)

theorem setZN_eq_zn (f : Flags) (v : Byte) : f.setZN v = zn f v := by
  rw [Flags.setZN, getLsbD_seven]
  rfl

/-! ### What a load and a store do -/

section

variable {i : Instr} {s : State} (src : DataSource) (hsrc : src.mode ≠ .relative)

include hsrc

theorem loadsA_of_exec (h : exec i s = .next (loadA src s)) :
    LoadsA i s (1 + src.mode.operandLength) (src.operand s) := by
  rw [LoadsA, h, loadA_eq, operand_advancePast hsrc, advancePast_eq, setZN_eq_zn]

theorem loadsX_of_exec (h : exec i s = .next (loadX src s)) :
    LoadsX i s (1 + src.mode.operandLength) (src.operand s) := by
  rw [LoadsX, h, loadX_eq, operand_advancePast hsrc, advancePast_eq, setZN_eq_zn]

theorem loadsY_of_exec (h : exec i s = .next (loadY src s)) :
    LoadsY i s (1 + src.mode.operandLength) (src.operand s) := by
  rw [LoadsY, h, loadY_eq, operand_advancePast hsrc, advancePast_eq, setZN_eq_zn]

end

/-- A store changes the byte at its effective address and PC (R104). -/
theorem storesByte_of_exec {i : Instr} {s : State} {v : Byte} (m : AddressMode) (hm : m.mode ≠ .relative)
    (h : exec i s = .next (store v m s)) :
    StoresByte i s (1 + m.mode.operandLength) (m.address s) v s.flags := by
  have hstore : store v m s =
      { s with pc := past s (1 + m.mode.operandLength), mem := s.mem.write (m.address s) v } := by
    rw [store_eq, address_advancePast hm, advancePast_eq]
  rw [hstore] at h
  exact ⟨_, h, rfl, fun addr => read_write s.mem (m.address s) addr v⟩

end Sys2Proof.Machine

namespace Sys2Proof.Proofs

open Sys2Proof.Machine Sys2Proof.Claims

/-- Settles O27, form by form: each is the load of A from its source, none of them Relative. -/
theorem ldaLoadsTheAccumulator : Obligations.LdaLoadsTheAccumulator := by
  unfold Obligations.LdaLoadsTheAccumulator
  exact fun _ b w => ⟨
    loadsA_of_exec (.immediate b) nofun rfl,
    loadsA_of_exec (.memory (.zeroPage b)) nofun rfl,
    loadsA_of_exec (.memory (.zeroPageX b)) nofun rfl,
    loadsA_of_exec (.memory (.absolute w)) nofun rfl,
    loadsA_of_exec (.memory (.absoluteX w)) nofun rfl,
    loadsA_of_exec (.memory (.absoluteY w)) nofun rfl,
    loadsA_of_exec (.memory (.indirectX b)) nofun rfl,
    loadsA_of_exec (.memory (.indirectY b)) nofun rfl⟩

/-- Settles O28, form by form: X is indexed by Y and Y by X. -/
theorem ldxAndLdyLoadTheIndexRegisters : Obligations.LdxAndLdyLoadTheIndexRegisters := by
  unfold Obligations.LdxAndLdyLoadTheIndexRegisters
  exact fun _ b w => ⟨
    loadsX_of_exec (.immediate b) nofun rfl,
    loadsX_of_exec (.memory (.zeroPage b)) nofun rfl,
    loadsX_of_exec (.memory (.zeroPageY b)) nofun rfl,
    loadsX_of_exec (.memory (.absolute w)) nofun rfl,
    loadsX_of_exec (.memory (.absoluteY w)) nofun rfl,
    loadsY_of_exec (.immediate b) nofun rfl,
    loadsY_of_exec (.memory (.zeroPage b)) nofun rfl,
    loadsY_of_exec (.memory (.zeroPageX b)) nofun rfl,
    loadsY_of_exec (.memory (.absolute w)) nofun rfl,
    loadsY_of_exec (.memory (.absoluteX w)) nofun rfl⟩

/-- Settles O29, form by form: each is the store of its register at its mode's address, none of them Relative. -/
theorem storesWriteOneByte : Obligations.StoresWriteOneByte := by
  unfold Obligations.StoresWriteOneByte
  exact fun _ b w => ⟨
    storesByte_of_exec (.zeroPage b) nofun rfl,
    storesByte_of_exec (.zeroPageX b) nofun rfl,
    storesByte_of_exec (.absolute w) nofun rfl,
    storesByte_of_exec (.absoluteX w) nofun rfl,
    storesByte_of_exec (.absoluteY w) nofun rfl,
    storesByte_of_exec (.indirectX b) nofun rfl,
    storesByte_of_exec (.indirectY b) nofun rfl,
    storesByte_of_exec (.zeroPage b) nofun rfl,
    storesByte_of_exec (.zeroPageY b) nofun rfl,
    storesByte_of_exec (.absolute w) nofun rfl,
    storesByte_of_exec (.zeroPage b) nofun rfl,
    storesByte_of_exec (.zeroPageX b) nofun rfl,
    storesByte_of_exec (.absolute w) nofun rfl⟩

end Sys2Proof.Proofs
end

section
/-!
PROOFS. Arithmetic (41_arithmetic.md R150 to R159). The ALU's four operations are read in integers first, with the
sign-bit masking as the range test of R152 and the digit algorithms as R153 and R154 write them. ADC and SBC then share
one meaning, `accumulate`, whose three outcomes (binary, digit algorithm, draw) each give one shape of statement; and
each statement follows from its shape for whatever source the operand has.
-/

namespace Sys2Proof.Machine

open Sys2Proof.Claims

/-! ### Binary addition and subtraction -/

theorem bit_eq_toNat (b : Bool) : bit b = b.toNat := by cases b <;> rfl

theorem bit_le_one (b : Bool) : bit b ≤ 1 := by cases b <;> decide

/-- What the sign-bit masking of R151 tests. -/
theorem signMask_eq_true_iff (a m r : Byte) :
    (~~~(a ^^^ m) &&& (a ^^^ r)).msb = true ↔ a.msb = m.msb ∧ a.msb ≠ r.msb := by
  rw [BitVec.msb_and, BitVec.msb_not, BitVec.msb_xor, BitVec.msb_xor]
  cases a.msb <;> simp

/-- The masking is the range test of R152: the sum leaves the signed range exactly if the signs of the operands agree
and the sign of the sum mod 256 is another. -/
theorem signMask_eq_addOverflows (a m : Byte) (c : Bool) :
    (~~~(a ^^^ m) &&& (a ^^^ (addBin a m c).result)).msb = addOverflows a m c := by
  have hc := bit_le_one c
  have ha := a.isLt
  have hm := m.isLt
  rw [Bool.eq_iff_iff, signMask_eq_true_iff, addOverflows]
  simp only [BitVec.msb_eq_decide, BitVec.toInt_eq_toNat_cond, addBin_toNat, ← bit_eq_toNat, ne_eq, decide_eq_decide,
    decide_eq_true_eq]
  omega

theorem addBin_overflow (a m : Byte) (c : Bool) : (addBin a m c).overflow = addOverflows a m c :=
  (getLsbD_seven _).trans (signMask_eq_addOverflows a m c)

theorem subBin_toNat (a m : Byte) (c : Bool) :
    ((subBin a m c).result.toNat : Int) = ((a.toNat : Int) - m.toNat - (1 - bit c)) % 256 := by
  rw [subBin, addBin_toNat, BitVec.toNat_not, bit_eq_toNat]
  omega

theorem subBin_carry (a m : Byte) (c : Bool) :
    (subBin a m c).carry = decide ((a.toNat : Int) - m.toNat - (1 - bit c) ≥ 0) := by
  rw [subBin, addBin_carry, BitVec.toNat_not, bit_eq_toNat, decide_eq_decide]
  omega

/-- Adding the complement is subtracting, as −1 − m is its signed value. -/
theorem addOverflows_not (a m : Byte) (c : Bool) : addOverflows a (~~~m) c = subOverflows a m c := by
  have hnot : (~~~m).toInt = -m.toInt - 1 := by
    simp only [BitVec.toInt_eq_toNat_cond, BitVec.toNat_not]
    omega
  rw [addOverflows, subOverflows, hnot, decide_eq_decide]
  omega

theorem subBin_overflow (a m : Byte) (c : Bool) : (subBin a m c).overflow = subOverflows a m c :=
  (addBin_overflow a (~~~m) c).trans (addOverflows_not a m c)

theorem signMask_eq_subOverflows (a m : Byte) (c : Bool) :
    ((a ^^^ m) &&& (a ^^^ (subBin a m c).result)).msb = subOverflows a m c := by
  have hmask : a ^^^ m = ~~~(a ^^^ ~~~m) := by rw [← BitVec.not_xor_right, BitVec.not_not]
  rw [hmask, subBin, signMask_eq_addOverflows, addOverflows_not]

/-! ### The digit algorithms -/

theorem addDec_eq (a m : Byte) (c : Bool) :
    addDec a m c = (BitVec.ofNat 8 (digitSum a.toNat m.toNat c).1, (digitSum a.toNat m.toNat c).2) := by
  rw [digitSum, bit_eq_toNat]
  rfl

theorem addDec_carry (a m : Byte) (c : Bool) : (addDec a m c).2 = (digitSum a.toNat m.toNat c).2 := by rw [addDec_eq]

theorem addDec_toNat (a m : Byte) (c : Bool) : (addDec a m c).1.toNat = (digitSum a.toNat m.toNat c).1 := by
  have hbyte : (digitSum a.toNat m.toNat c).1 < 256 := by
    rw [digitSum]
    omega
  rw [addDec_eq, BitVec.toNat_ofNat, Nat.mod_eq_of_lt hbyte]

theorem subDec_eq (a m : Byte) (c : Bool) :
    subDec a m c = (BitVec.ofInt 8 (digitDifference a.toNat m.toNat c).1, (digitDifference a.toNat m.toNat c).2) := by
  rw [digitDifference, bit_eq_toNat]
  rfl

theorem subDec_carry (a m : Byte) (c : Bool) : (subDec a m c).2 = (digitDifference a.toNat m.toNat c).2 := by
  rw [subDec_eq]

theorem subDec_toNat (a m : Byte) (c : Bool) :
    ((subDec a m c).1.toNat : Int) = (digitDifference a.toNat m.toNat c).1 := by
  have hbyte : 0 ≤ (digitDifference a.toNat m.toNat c).1 ∧ (digitDifference a.toNat m.toNat c).1 < 256 := by
    rw [digitDifference]
    omega
  rw [subDec_eq, BitVec.toNat_ofInt]
  omega

theorem packedBcd_of_digits {v : Byte} {hi lo : Nat} (hhi : hi ≤ 9) (hlo : lo ≤ 9) (hv : v.toNat = hi * 16 + lo) :
    PackedBcd v ∧ decimalValue v = hi * 10 + lo := by
  rw [PackedBcd, decimalValue, hv]
  omega

/-- Adding 6 to a sum of two digits above 9 carries in hexadecimal what its decimal digit carries. -/
theorem adjusted_digitSum {d : Nat} (hd : d ≤ 19) : (if d > 9 then d + 6 else d) = d / 10 * 16 + d % 10 := by
  split <;> omega

/-- Taking 6 from a difference of two digits below 0 borrows in hexadecimal what its decimal digit borrows. -/
theorem adjusted_digitDifference {d : Int} (hmin : -10 ≤ d) (hmax : d ≤ 9) :
    (if d < 0 then d - 6 else d) = d / 10 * 16 + d % 10 := by
  split <;> omega

/-- On decimal digits AddDec adds digit by digit, with the decimal carry. -/
theorem digitSum_of_digits {a m lo hi : Nat} {c : Bool} (ha : a / 16 ≤ 9 ∧ a % 16 ≤ 9) (hm : m / 16 ≤ 9 ∧ m % 16 ≤ 9)
    (hlo : lo = a % 16 + m % 16 + bit c) (hhi : hi = a / 16 + m / 16 + lo / 10) :
    digitSum a m c = (hi % 10 * 16 + lo % 10, decide (hi ≥ 10)) := by
  have hc := bit_le_one c
  have hcarry : (if lo / 10 * 16 + lo % 10 > 15 then 1 else 0) = lo / 10 := by split <;> omega
  simp only [digitSum, ← hlo, adjusted_digitSum (show lo ≤ 19 by omega), hcarry, ← hhi,
    adjusted_digitSum (show hi ≤ 19 by omega)]
  rw [Prod.mk.injEq, decide_eq_decide]
  omega

/-- On decimal digits SubDec subtracts digit by digit, with the decimal borrow. -/
theorem digitDifference_of_digits {a m lo hi : Int} {c : Bool} (ha : 0 ≤ a / 16 ∧ a / 16 ≤ 9 ∧ a % 16 ≤ 9)
    (hm : 0 ≤ m / 16 ∧ m / 16 ≤ 9 ∧ m % 16 ≤ 9) (hlo : lo = a % 16 - m % 16 - (1 - bit c))
    (hhi : hi = a / 16 - m / 16 + lo / 10) :
    (digitDifference a m c).1 = hi % 10 * 16 + lo % 10 := by
  have hc := bit_le_one c
  have hborrow : (if lo < 0 then a / 16 - m / 16 - 1 else a / 16 - m / 16) = hi := by split <;> omega
  simp only [digitDifference, ← hlo, adjusted_digitDifference (show -10 ≤ lo by omega) (by omega), hborrow,
    adjusted_digitDifference (show -10 ≤ hi by omega) (by omega)]
  omega

/-- On packed BCD operands the digit algorithm is decimal addition (R153). -/
theorem addDec_packedBcd {a m : Byte} (c : Bool) (ha : PackedBcd a) (hm : PackedBcd m) :
    PackedBcd (addDec a m c).1 ∧
    decimalValue (addDec a m c).1 = (decimalValue a + decimalValue m + bit c) % 100 ∧
    ((addDec a m c).2 = true ↔ decimalValue a + decimalValue m + bit c ≥ 100) := by
  have hsum := digitSum_of_digits (c := c) ha hm rfl rfl
  have hr := addDec_toNat a m c
  rw [hsum] at hr
  obtain ⟨hpacked, hvalue⟩ := packedBcd_of_digits (by omega) (by omega) hr
  refine ⟨hpacked, ?value, ?carry⟩
  case value =>
    rw [hvalue, decimalValue, decimalValue]
    omega
  case carry =>
    rw [addDec_carry, hsum, decide_eq_true_eq, decimalValue, decimalValue]
    omega

/-- On packed BCD operands the digit algorithm is decimal subtraction (R154). -/
theorem subDec_packedBcd {a m : Byte} (c : Bool) (ha : PackedBcd a) (hm : PackedBcd m) :
    PackedBcd (subDec a m c).1 ∧
    (decimalValue (subDec a m c).1 : Int) = ((decimalValue a : Int) - decimalValue m - (1 - bit c)) % 100 ∧
    ((subDec a m c).2 = true ↔ (decimalValue a : Int) - decimalValue m - (1 - bit c) ≥ 0) := by
  have hc := bit_le_one c
  obtain ⟨ha1, ha0⟩ := ha
  obtain ⟨hm1, hm0⟩ := hm
  obtain ⟨lo, hlo⟩ : ∃ lo : Int, lo = a.toNat % 16 - m.toNat % 16 - (1 - bit c) := ⟨_, rfl⟩
  obtain ⟨hi, hhi⟩ : ∃ hi : Int, hi = a.toNat / 16 - m.toNat / 16 + lo / 10 := ⟨_, rfl⟩
  have hr := subDec_toNat a m c
  rw [digitDifference_of_digits (by omega) (by omega) hlo hhi] at hr
  obtain ⟨hpacked, hvalue⟩ :=
    packedBcd_of_digits (v := (subDec a m c).1) (hi := (hi % 10).toNat) (lo := (lo % 10).toNat) (by omega) (by omega)
      (by omega)
  refine ⟨hpacked, ?value, ?carry⟩
  case value =>
    rw [hvalue, decimalValue, decimalValue]
    omega
  case carry =>
    rw [subDec_carry, digitDifference, decide_eq_true_eq, decimalValue, decimalValue]
    omega

/-! ### The three outcomes of ADC and SBC -/

theorem packedBcd_iff (v : Byte) : PackedBcd v ↔ isPackedBcd v = true := (isPackedBcd_iff v).symm

theorem drawsOn_iff (s : State) (m : Byte) :
    s.drawsOn m = true ↔ s.cfg.nonBcdPolicy = .draw ∧ ¬(PackedBcd s.a ∧ PackedBcd m) := by
  rw [State.drawsOn, Bool.and_eq_true, beq_iff_eq, Bool.not_eq_true', ← Bool.not_eq_true, Bool.and_eq_true,
    ← packedBcd_iff, ← packedBcd_iff]

theorem drawsOn_eq_false_of_usesAlgorithm {s : State} {m : Byte} (h : UsesAlgorithm s m) : s.drawsOn m = false := by
  obtain ⟨-, hpolicy | hpacked⟩ := h
  · simp [State.drawsOn, hpolicy]
  · exact Bool.eq_false_iff.mpr fun hdraws => ((drawsOn_iff s m).mp hdraws).2 hpacked

section

variable {i : Instr} {s : State} {mode : Mode} {m : Byte} {bin : AluResult} {dec : Byte × Bool}

theorem accumulates_of_exec_setSum {r : Byte} {c v : Bool} (h : exec i s = .next ((s.advancePast mode).setSum r c v)) :
    Accumulates i s (1 + mode.operandLength) r c v := by
  rw [Accumulates, h, State.setSum, advancePast_eq, setZN_eq_zn]
  rfl

variable (h : exec i s = .next (accumulate bin dec m (s.advancePast mode)))

include h

theorem accumulates_of_binary (hd : s.flags.d = false) :
    Accumulates i s (1 + mode.operandLength) bin.result bin.carry bin.overflow := by
  rw [accumulate_binary _ _ _ (s.advancePast mode) hd] at h
  exact accumulates_of_exec_setSum h

theorem accumulates_of_usesAlgorithm (halg : UsesAlgorithm s m) :
    Accumulates i s (1 + mode.operandLength) dec.1 dec.2 bin.overflow := by
  have hdraws : (s.advancePast mode).drawsOn m = false := drawsOn_eq_false_of_usesAlgorithm halg
  rw [accumulate_decimal _ _ _ (s.advancePast mode) halg.1 hdraws] at h
  exact accumulates_of_exec_setSum h

theorem draws_of_overflow {overflows : Byte → Byte → Bool → Bool} (hv : bin.overflow = overflows s.a m s.flags.c) :
    Draws overflows i s (1 + mode.operandLength) m := by
  intro ⟨hd, hpolicy⟩
  have hdraws : (s.advancePast mode).drawsOn m = true := (drawsOn_iff s m).mpr hpolicy
  rw [accumulate_drawn _ _ _ (s.advancePast mode) hd hdraws, hv, State.setSum, advancePast_eq, setZN_eq_zn] at h
  exact h

theorem decimalFlags_of_overflow {overflows : Byte → Byte → Bool → Bool}
    (hv : bin.overflow = overflows s.a m s.flags.c) :
    DecimalFlags overflows i s (1 + mode.operandLength) m := by
  intro _
  obtain ⟨r, c, k, haccumulate⟩ := accumulate_frame bin dec m (s.advancePast mode)
  rw [haccumulate, hv, setZN_eq_zn, advancePast_eq] at h
  exact ⟨_, h, rfl, rfl, rfl, rfl⟩

end

/-! ### The eight operand forms -/

/-- The eight forms of an accumulator instruction have the one meaning `f`, each of its operand's source. -/
def FormsOf (f : DataSource → State → State) (imm zp zpx : Byte → Instr) (abs absx absy : Word → Instr)
    (indx indy : Byte → Instr) : Prop :=
  ∀ (s : State) (b : Byte) (w : Word),
    exec (imm b) s = .next (f (.immediate b) s) ∧ exec (zp b) s = .next (f (.memory (.zeroPage b)) s) ∧
    exec (zpx b) s = .next (f (.memory (.zeroPageX b)) s) ∧ exec (abs w) s = .next (f (.memory (.absolute w)) s) ∧
    exec (absx w) s = .next (f (.memory (.absoluteX w)) s) ∧ exec (absy w) s = .next (f (.memory (.absoluteY w)) s) ∧
    exec (indx b) s = .next (f (.memory (.indirectX b)) s) ∧ exec (indy b) s = .next (f (.memory (.indirectY b)) s)

/-- What an instruction's meaning gives for every source that is not Relative holds over its eight forms. -/
theorem overEightForms_of_formsOf {P : Instr → State → Nat → Byte → Prop} {f : DataSource → State → State}
    {imm zp zpx : Byte → Instr} {abs absx absy : Word → Instr} {indx indy : Byte → Instr}
    (hforms : FormsOf f imm zp zpx abs absx absy indx indy)
    (hP : ∀ {i : Instr} {s : State} {src : DataSource}, exec i s = .next (f src s) → src.mode ≠ .relative →
      P i s (1 + src.mode.operandLength) (src.operand s)) :
    overEightForms P imm zp zpx abs absx absy indx indy := by
  intro s b w
  obtain ⟨himm, hzp, hzpx, habs, habsx, habsy, hindx, hindy⟩ := hforms s b w
  exact ⟨hP himm nofun, hP hzp nofun, hP hzpx nofun, hP habs nofun, hP habsx nofun, hP habsy nofun,
    hP hindx nofun, hP hindy nofun⟩

theorem formsOf_addWithCarry :
    FormsOf addWithCarry .adcImmediate .adcZeroPage .adcZeroPageX .adcAbsolute .adcAbsoluteX .adcAbsoluteY
      .adcIndirectX .adcIndirectY :=
  fun _ _ _ => ⟨rfl, rfl, rfl, rfl, rfl, rfl, rfl, rfl⟩

theorem formsOf_subtractWithBorrow :
    FormsOf subtractWithBorrow .sbcImmediate .sbcZeroPage .sbcZeroPageX .sbcAbsolute .sbcAbsoluteX .sbcAbsoluteY
      .sbcIndirectX .sbcIndirectY :=
  fun _ _ _ => ⟨rfl, rfl, rfl, rfl, rfl, rfl, rfl, rfl⟩

/-- What `accumulate` gives with the results of addition holds over the eight forms of ADC (R158). -/
theorem overEightForms_adc {P : Instr → State → Nat → Byte → Prop}
    (hP : ∀ {i : Instr} {s : State} {mode : Mode} {m : Byte},
      exec i s = .next (accumulate (addBin s.a m s.flags.c) (addDec s.a m s.flags.c) m (s.advancePast mode)) →
      P i s (1 + mode.operandLength) m) :
    overEightForms P .adcImmediate .adcZeroPage .adcZeroPageX .adcAbsolute .adcAbsoluteX .adcAbsoluteY
      .adcIndirectX .adcIndirectY :=
  overEightForms_of_formsOf formsOf_addWithCarry fun h hsrc => hP (by
    rw [h, addWithCarry_eq, operand_advancePast hsrc])

/-- What `accumulate` gives with the results of subtraction holds over the eight forms of SBC (R159). -/
theorem overEightForms_sbc {P : Instr → State → Nat → Byte → Prop}
    (hP : ∀ {i : Instr} {s : State} {mode : Mode} {m : Byte},
      exec i s = .next (accumulate (subBin s.a m s.flags.c) (subDec s.a m s.flags.c) m (s.advancePast mode)) →
      P i s (1 + mode.operandLength) m) :
    overEightForms P .sbcImmediate .sbcZeroPage .sbcZeroPageX .sbcAbsolute .sbcAbsoluteX .sbcAbsoluteY
      .sbcIndirectX .sbcIndirectY :=
  overEightForms_of_formsOf formsOf_subtractWithBorrow fun h hsrc => hP (by
    rw [h, subtractWithBorrow_eq, operand_advancePast hsrc])

/-! ### What the statements say of one form -/

section

variable {i : Instr} {s : State} {mode : Mode} {m : Byte}

section

variable (h : exec i s =
  .next (accumulate (addBin s.a m s.flags.c) (addDec s.a m s.flags.c) m (s.advancePast mode)))

include h

theorem addsBinary_of_exec : AddsBinary i s (1 + mode.operandLength) m := by
  intro hd
  have hacc := accumulates_of_binary h hd
  rw [addBin_carry, addBin_overflow, ← bit_eq_toNat] at hacc
  exact ⟨_, bit_eq_toNat s.flags.c ▸ addBin_toNat s.a m s.flags.c, signMask_eq_addOverflows s.a m s.flags.c, hacc⟩

theorem addsDecimal_of_exec : AddsDecimal i s (1 + mode.operandLength) m := by
  intro halg
  have hacc := accumulates_of_usesAlgorithm h halg
  rw [addDec_carry, addBin_overflow] at hacc
  refine ⟨_, addDec_toNat s.a m s.flags.c, hacc, fun ha hm => ?_⟩
  rw [← addDec_carry]
  exact addDec_packedBcd s.flags.c ha hm

end

section

variable (h : exec i s =
  .next (accumulate (subBin s.a m s.flags.c) (subDec s.a m s.flags.c) m (s.advancePast mode)))

include h

theorem subtractsBinary_of_exec : SubtractsBinary i s (1 + mode.operandLength) m := by
  intro hd
  have hacc := accumulates_of_binary h hd
  rw [subBin_carry, subBin_overflow] at hacc
  exact ⟨_, subBin_toNat s.a m s.flags.c, signMask_eq_subOverflows s.a m s.flags.c, hacc⟩

theorem subtractsDecimal_of_exec : SubtractsDecimal i s (1 + mode.operandLength) m := by
  intro halg
  have hacc := accumulates_of_usesAlgorithm h halg
  rw [subDec_carry, subBin_overflow] at hacc
  refine ⟨_, subDec_toNat s.a m s.flags.c, hacc, fun ha hm => ?_⟩
  rw [← subDec_carry]
  exact subDec_packedBcd s.flags.c ha hm

end

end

end Sys2Proof.Machine

namespace Sys2Proof.Proofs

open Sys2Proof.Machine Sys2Proof.Claims

/-- Settles O30: with D clear each form leaves the binary result, and the masking of its sign bits is the range test. -/
theorem binaryArithmeticIsExact : Obligations.BinaryArithmeticIsExact := by
  unfold Obligations.BinaryArithmeticIsExact
  exact ⟨overEightForms_adc addsBinary_of_exec, overEightForms_sbc subtractsBinary_of_exec⟩

/-- Settles O31: without a draw each form leaves the digit algorithm's result, which is the decimal sum of packed BCD
operands. -/
theorem decimalAdditionIsCorrect : Obligations.DecimalAdditionIsCorrect := by
  unfold Obligations.DecimalAdditionIsCorrect
  exact overEightForms_adc addsDecimal_of_exec

/-- Settles O32: without a draw each form leaves the digit algorithm's result, which is the decimal difference of
packed BCD operands. -/
theorem decimalSubtractionIsCorrect : Obligations.DecimalSubtractionIsCorrect := by
  unfold Obligations.DecimalSubtractionIsCorrect
  exact overEightForms_sbc subtractsDecimal_of_exec

/-- Settles O33: whatever result and carry `accumulate` leaves, V is the binary operation's and Z and N are the
result's. -/
theorem decimalModeFlags : Obligations.DecimalModeFlags := by
  unfold Obligations.DecimalModeFlags
  exact ⟨overEightForms_adc fun h => decimalFlags_of_overflow h (addBin_overflow ..),
    overEightForms_sbc fun h => decimalFlags_of_overflow h (subBin_overflow ..)⟩

/-- Settles O34: where a draw is taken, `accumulate` leaves the drawn byte and carry with the binary V. -/
theorem drawPolicyLeavesTheResultFree : Obligations.DrawPolicyLeavesTheResultFree := by
  unfold Obligations.DrawPolicyLeavesTheResultFree
  exact ⟨overEightForms_adc fun h => draws_of_overflow h (addBin_overflow ..),
    overEightForms_sbc fun h => draws_of_overflow h (subBin_overflow ..)⟩

end Sys2Proof.Proofs
end

section
/-!
PROOFS. Increment and decrement (42_inc_dec.md R181 to R186). The count modulo 256 is said once, on bytes; the memory
forms are one read and one write at the same address, the register forms a load of the counted byte.
-/

namespace Sys2Proof.Machine

open Sys2Proof.Claims

/-! ### Counting modulo 256 -/

theorem add_one_eq_ofNat (v : Byte) : v + 1 = BitVec.ofNat 8 (v.toNat + 1) := by bv_omega

theorem sub_one_eq_ofNat (v : Byte) : v - 1 = BitVec.ofNat 8 (v.toNat + 255) := by bv_omega

theorem add_one_toNat (v : Byte) : (v + 1).toNat = (v.toNat + 1) % 256 := by
  rw [add_one_eq_ofNat, BitVec.toNat_ofNat]

theorem sub_one_toNat (v : Byte) : (v - 1).toNat = (v.toNat + 255) % 256 := by
  rw [sub_one_eq_ofNat, BitVec.toNat_ofNat]

/-! ### The four memory forms of a read-modify-write instruction -/

/-- The four memory forms have the one meaning `f`, each of its own mode. -/
def MemoryFormsOf (f : AddressMode → State → State) (zp zpx : Byte → Instr) (abs absx : Word → Instr) : Prop :=
  ∀ (s : State) (b : Byte) (w : Word),
    exec (zp b) s = .next (f (.zeroPage b) s) ∧ exec (zpx b) s = .next (f (.zeroPageX b) s) ∧
    exec (abs w) s = .next (f (.absolute w) s) ∧ exec (absx w) s = .next (f (.absoluteX w) s)

/-- What an instruction's meaning gives for every mode that is not Relative holds over its four memory forms. -/
theorem overFourForms_of_memoryFormsOf {P : Instr → State → Nat → Word → Prop} {f : AddressMode → State → State}
    {zp zpx : Byte → Instr} {abs absx : Word → Instr} (hforms : MemoryFormsOf f zp zpx abs absx)
    (hP : ∀ {i : Instr} {s : State} {m : AddressMode}, exec i s = .next (f m s) → m.mode ≠ .relative →
      P i s (1 + m.mode.operandLength) (m.address s)) :
    overFourForms P zp zpx abs absx := by
  intro s b w
  obtain ⟨hzp, hzpx, habs, habsx⟩ := hforms s b w
  exact ⟨hP hzp nofun, hP hzpx nofun, hP habs nofun, hP habsx nofun⟩

theorem memoryFormsOf_increment :
    MemoryFormsOf (modifyMemory (· + 1)) .incZeroPage .incZeroPageX .incAbsolute .incAbsoluteX :=
  fun _ _ _ => ⟨rfl, rfl, rfl, rfl⟩

theorem memoryFormsOf_decrement :
    MemoryFormsOf (modifyMemory (· - 1)) .decZeroPage .decZeroPageX .decAbsolute .decAbsoluteX :=
  fun _ _ _ => ⟨rfl, rfl, rfl, rfl⟩

/-- The byte written is `f` of the byte that stood at the same address, and Z and N are its (R181, R182). -/
theorem storesByte_of_exec_modifyMemory {f : Byte → Byte} {i : Instr} {s : State} {m : AddressMode}
    (h : exec i s = .next (modifyMemory f m s)) (hm : m.mode ≠ .relative) :
    StoresByte i s (1 + m.mode.operandLength) (m.address s) (f (s.mem.read (m.address s)))
      (zn s.flags (f (s.mem.read (m.address s)))) := by
  rw [modifyMemory_eq, address_advancePast hm, advancePast_eq, setZN_eq_zn] at h
  exact ⟨_, h, rfl, fun addr => read_write s.mem (m.address s) addr _⟩

/-! ### The one-byte instructions that load a register -/

theorem advance_eq_past (s : State) (n : Nat) : s.advance n = { s with pc := past s n } := by
  rw [past_eq]
  rfl

theorem loadsX_of_exec_loadedIntoX {i : Instr} {s : State} {v : Byte}
    (h : exec i s = .next (loadedIntoX v (s.advance 1))) : LoadsX i s 1 v := by
  rw [LoadsX, h, advance_eq_past, ← setZN_eq_zn]
  rfl

theorem loadsY_of_exec_loadedIntoY {i : Instr} {s : State} {v : Byte}
    (h : exec i s = .next (loadedIntoY v (s.advance 1))) : LoadsY i s 1 v := by
  rw [LoadsY, h, advance_eq_past, ← setZN_eq_zn]
  rfl

end Sys2Proof.Machine

namespace Sys2Proof.Proofs

open Sys2Proof.Machine Sys2Proof.Claims

/-- Settles O35: each form stores the counted byte at the address it read, for INC and for DEC. -/
theorem incAndDecModifyOneByte : Obligations.IncAndDecModifyOneByte := by
  unfold Obligations.IncAndDecModifyOneByte
  exact ⟨
    overFourForms_of_memoryFormsOf memoryFormsOf_increment fun h hm =>
      ⟨_, add_one_toNat _, storesByte_of_exec_modifyMemory h hm⟩,
    overFourForms_of_memoryFormsOf memoryFormsOf_decrement fun h hm =>
      ⟨_, sub_one_toNat _, storesByte_of_exec_modifyMemory h hm⟩⟩

/-- Settles O36: each instruction loads its register with the byte counted up or down by one. -/
theorem indexRegistersCountModulo256 : Obligations.IndexRegistersCountModulo256 := by
  unfold Obligations.IndexRegistersCountModulo256
  intro s
  rw [← add_one_eq_ofNat, ← add_one_eq_ofNat, ← sub_one_eq_ofNat, ← sub_one_eq_ofNat]
  exact ⟨loadsX_of_exec_loadedIntoX rfl, loadsY_of_exec_loadedIntoY rfl, loadsX_of_exec_loadedIntoX rfl,
    loadsY_of_exec_loadedIntoY rfl⟩

end Sys2Proof.Proofs
end

section
/-!
PROOFS. Shifts and rotates (43_shift_rotate.md R195 to R199). Each bit movement is read once as arithmetic, on bytes;
a form then writes the moved byte where it read, the accumulator or one byte of memory.
-/

namespace Sys2Proof.Machine

open Sys2Proof.Claims

/-! ### The bit movements in integers -/

theorem getLsbD_seven_eq_decide (v : Byte) : v.getLsbD 7 = decide (v.toNat ≥ 128) := by
  rw [getLsbD_seven, BitVec.msb_eq_decide]

theorem getLsbD_zero_eq_decide (v : Byte) : v.getLsbD 0 = decide (v.toNat % 2 = 1) := Nat.testBit_zero v.toNat

theorem shiftLeft_one_toNat (v : Byte) : (v <<< 1).toNat = 2 * v.toNat % 256 := by
  rw [BitVec.toNat_shiftLeft, Nat.shiftLeft_eq, pow_one, Nat.mul_comm]

theorem ushiftRight_one_toNat (v : Byte) : (v >>> 1).toNat = v.toNat / 2 := by
  rw [BitVec.toNat_ushiftRight, Nat.shiftRight_one]

theorem bitAt_toNat (c : Bool) {k : Nat} (hk : k < 8) : (bitAt c k).toNat = 2 ^ k * bit c := by
  interval_cases k <;> cases c <;> rfl

/-- A flag placed at a clear bit of a byte adds that bit's weight: nothing carries. -/
theorem or_bitAt_toNat {v : Byte} {k : Nat} (c : Bool) (hk : k < 8) (hclear : v.getLsbD k = false) :
    (v ||| bitAt c k).toNat = v.toNat + 2 ^ k * bit c := by
  have hdisjoint : v &&& bitAt c k = 0#8 := by
    refine BitVec.eq_of_getLsbD_eq fun j hj => ?_
    rw [BitVec.getLsbD_and, bitAt_getLsbD c k j hk hj, BitVec.getLsbD_zero]
    by_cases hjk : j = k
    · rw [hjk, hclear, Bool.false_and]
    · rw [decide_eq_false hjk, Bool.and_false, Bool.and_false]
  rw [← BitVec.add_eq_or_of_and_eq_zero _ _ hdisjoint, BitVec.toNat_add_of_and_eq_zero hdisjoint, bitAt_toNat c hk]

/-- ROL puts the carry in at bit 0, which the shift has cleared (R198). -/
theorem rolBits_toNat (c : Bool) (v : Byte) : (rolBits c v).1.toNat = (2 * v.toNat + bit c) % 256 := by
  have hclear : (v <<< 1).getLsbD 0 = false := by simp
  have hc := bit_le_one c
  rw [rolBits, or_bitAt_toNat c (by decide) hclear, shiftLeft_one_toNat]
  omega

/-- ROR puts the carry in at bit 7, which the shift has cleared (R199). -/
theorem rorBits_toNat (c : Bool) (v : Byte) : (rorBits c v).1.toNat = v.toNat / 2 + 128 * bit c := by
  have hclear : (v >>> 1).getLsbD 7 = false := by simp
  rw [rorBits, or_bitAt_toNat c (by decide) hclear, ushiftRight_one_toNat]
  rfl

/-- A bit movement, read in integers: the result is `res` of the carry in and the byte, the carry out `out` of the
byte. -/
def MovesBits (bits : Bool → Byte → Byte × Bool) (res : Nat → Nat → Nat) (out : Nat → Bool) : Prop :=
  ∀ (c : Bool) (v : Byte), (bits c v).1.toNat = res (bit c) v.toNat ∧ (bits c v).2 = out v.toNat

theorem movesBits_asl : MovesBits aslBits (fun _ v => 2 * v % 256) (fun v => decide (v ≥ 128)) :=
  fun _ v => ⟨shiftLeft_one_toNat v, getLsbD_seven_eq_decide v⟩

theorem movesBits_lsr : MovesBits lsrBits (fun _ v => v / 2) (fun v => decide (v % 2 = 1)) :=
  fun _ v => ⟨ushiftRight_one_toNat v, getLsbD_zero_eq_decide v⟩

theorem movesBits_rol : MovesBits rolBits (fun c v => (2 * v + c) % 256) (fun v => decide (v ≥ 128)) :=
  fun c v => ⟨rolBits_toNat c v, getLsbD_seven_eq_decide v⟩

theorem movesBits_ror : MovesBits rorBits (fun c v => v / 2 + 128 * c) (fun v => decide (v % 2 = 1)) :=
  fun c v => ⟨rorBits_toNat c v, getLsbD_zero_eq_decide v⟩

/-! ### What a shift does to its target -/

section

variable (bits : Bool → Byte → Byte × Bool)

theorem shiftTarget_accumulator_eq (s : State) :
    shiftTarget bits .accumulator s = { s.advancePast .accumulator with
      a := (bits s.flags.c s.a).1
      flags := { s.flags with c := (bits s.flags.c s.a).2 }.setZN (bits s.flags.c s.a).1 } := rfl

theorem shiftTarget_memory_eq (m : AddressMode) (s : State) :
    shiftTarget bits (.memory m) s = { s.advancePast m.mode with
      mem := s.mem.write (m.address (s.advancePast m.mode))
        (bits s.flags.c (s.mem.read (m.address (s.advancePast m.mode)))).1
      flags := { s.flags with c := (bits s.flags.c (s.mem.read (m.address (s.advancePast m.mode)))).2 }.setZN
        (bits s.flags.c (s.mem.read (m.address (s.advancePast m.mode)))).1 } := rfl

end

/-- The accumulator form writes the moved byte back to A (R195). -/
theorem exec_eq_of_shiftTarget_accumulator {bits : Bool → Byte → Byte × Bool} {i : Instr} {s : State}
    (h : exec i s = .next (shiftTarget bits .accumulator s)) :
    exec i s = .next { s with
      a := (bits s.flags.c s.a).1
      pc := past s 1
      flags := zn { s.flags with c := (bits s.flags.c s.a).2 } (bits s.flags.c s.a).1 } := by
  rw [h, shiftTarget_accumulator_eq, advancePast_eq, setZN_eq_zn]
  rfl

/-- A memory form writes the moved byte at the address it read from (R195). -/
theorem storesByte_of_exec_shiftTarget {bits : Bool → Byte → Byte × Bool} {i : Instr} {s : State} {m : AddressMode}
    (h : exec i s = .next (shiftTarget bits (.memory m) s)) (hm : m.mode ≠ .relative) :
    StoresByte i s (1 + m.mode.operandLength) (m.address s) (bits s.flags.c (s.mem.read (m.address s))).1
      (zn { s.flags with c := (bits s.flags.c (s.mem.read (m.address s))).2 }
        (bits s.flags.c (s.mem.read (m.address s))).1) := by
  rw [shiftTarget_memory_eq, address_advancePast hm, advancePast_eq, setZN_eq_zn] at h
  exact ⟨_, h, rfl, fun addr => read_write s.mem (m.address s) addr _⟩

/-- An instruction whose five forms shift their target by `bits` is the shift that `bits` is in integers. -/
theorem shifts_of_movesBits {bits : Bool → Byte → Byte × Bool} {res : Nat → Nat → Nat} {out : Nat → Bool}
    {acc : Instr} {zp zpx : Byte → Instr} {abs absx : Word → Instr} (hbits : MovesBits bits res out)
    (hacc : ∀ s, exec acc s = .next (shiftTarget bits .accumulator s))
    (hforms : MemoryFormsOf (fun m => shiftTarget bits (.memory m)) zp zpx abs absx) :
    Shifts res out acc zp zpx abs absx := by
  refine ⟨fun s => ?accumulator, overFourForms_of_memoryFormsOf hforms fun {i s m} h hm => ?memory⟩
  case accumulator =>
    obtain ⟨hres, hout⟩ := hbits s.flags.c s.a
    exact ⟨_, hres, hout ▸ exec_eq_of_shiftTarget_accumulator (hacc s)⟩
  case memory =>
    obtain ⟨hres, hout⟩ := hbits s.flags.c (s.mem.read (m.address s))
    exact ⟨_, hres, hout ▸ storesByte_of_exec_shiftTarget h hm⟩

end Sys2Proof.Machine

namespace Sys2Proof.Proofs

open Sys2Proof.Machine Sys2Proof.Claims

/-- Settles O37: each mnemonic's five forms shift their target by one bit movement, which is the statement's in
integers. -/
theorem shiftsMoveOneBitThroughCarry : Obligations.ShiftsMoveOneBitThroughCarry := by
  unfold Obligations.ShiftsMoveOneBitThroughCarry
  exact ⟨
    shifts_of_movesBits movesBits_asl (fun _ => rfl) fun _ _ _ => ⟨rfl, rfl, rfl, rfl⟩,
    shifts_of_movesBits movesBits_lsr (fun _ => rfl) fun _ _ _ => ⟨rfl, rfl, rfl, rfl⟩,
    shifts_of_movesBits movesBits_rol (fun _ => rfl) fun _ _ _ => ⟨rfl, rfl, rfl, rfl⟩,
    shifts_of_movesBits movesBits_ror (fun _ => rfl) fun _ _ _ => ⟨rfl, rfl, rfl, rfl⟩⟩

end Sys2Proof.Proofs
end

section
/-!
PROOFS. Logic and bit test (44_logic_bit.md R210 to R214). AND, ORA and EOR are one load of A with the combined byte,
whatever the bitwise function is; BIT copies two bits of its operand, read here as arithmetic.
-/

namespace Sys2Proof.Machine

open Sys2Proof.Claims

theorem getLsbD_eq_decide_div (v : Byte) (k : Nat) : v.getLsbD k = decide (v.toNat / 2 ^ k % 2 = 1) :=
  Nat.testBit_eq_decide_div_mod_eq

/-- An accumulator logic instruction loads A with `f` of A and its operand (R210). -/
theorem loadsA_of_exec_logicA {f : Byte → Byte → Byte} {i : Instr} {s : State} {src : DataSource}
    (h : exec i s = .next (logicA f src s)) (hsrc : src.mode ≠ .relative) :
    LoadsA i s (1 + src.mode.operandLength) (f s.a (src.operand s)) := by
  rw [LoadsA, h, logicA_eq, operand_advancePast hsrc, advancePast_eq, setZN_eq_zn]

/-- Eight forms that are accumulator logic by `f` load A with `f` of A and the operand, each of its own source. -/
theorem overEightForms_logicA {f : Byte → Byte → Byte} {imm zp zpx : Byte → Instr} {abs absx absy : Word → Instr}
    {indx indy : Byte → Instr} (hforms : FormsOf (logicA f) imm zp zpx abs absx absy indx indy) :
    overEightForms (fun i s n m => LoadsA i s n (f s.a m)) imm zp zpx abs absx absy indx indy :=
  overEightForms_of_formsOf hforms loadsA_of_exec_logicA

/-- N and V are bits 7 and 6 of the byte at the effective address, Z is of its conjunction with A (R214). -/
theorem testsBits_of_exec_bitTest {i : Instr} {s : State} {m : AddressMode} (h : exec i s = .next (bitTest m s))
    (hm : m.mode ≠ .relative) : TestsBits i s (1 + m.mode.operandLength) (at_ s m) := by
  rw [TestsBits, h, bitTest_eq, address_advancePast hm, advancePast_eq, getLsbD_eq_decide_div, getLsbD_eq_decide_div]
  rfl

end Sys2Proof.Machine

namespace Sys2Proof.Proofs

open Sys2Proof.Machine Sys2Proof.Claims

/-- Settles O38: each mnemonic's eight forms combine A with their operand by its one bitwise function. -/
theorem logicActsBitwiseOnA : Obligations.LogicActsBitwiseOnA := by
  unfold Obligations.LogicActsBitwiseOnA
  exact ⟨
    overEightForms_logicA (f := (· &&& ·)) fun _ _ _ => ⟨rfl, rfl, rfl, rfl, rfl, rfl, rfl, rfl⟩,
    overEightForms_logicA (f := (· ||| ·)) fun _ _ _ => ⟨rfl, rfl, rfl, rfl, rfl, rfl, rfl, rfl⟩,
    overEightForms_logicA (f := (· ^^^ ·)) fun _ _ _ => ⟨rfl, rfl, rfl, rfl, rfl, rfl, rfl, rfl⟩⟩

/-- Settles O39: both forms are the bit test at their mode's address, neither of them Relative. -/
theorem bitTestsMemoryAgainstA : Obligations.BitTestsMemoryAgainstA := by
  unfold Obligations.BitTestsMemoryAgainstA
  exact fun _ b w => ⟨
    testsBits_of_exec_bitTest (m := .zeroPage b) rfl nofun,
    testsBits_of_exec_bitTest (m := .absolute w) rfl nofun⟩

end Sys2Proof.Proofs
end

section
/-!
PROOFS. Compare (45_compare.md R225 to R228). The flags of `Compare(r, m)` are read in integers once, with neither D
nor the carry in among them; CMP, CPX and CPY differ in the register they compare.
-/

namespace Sys2Proof.Machine

open Sys2Proof.Claims

theorem sub_toNat (r m : Byte) : (r - m).toNat = (r.toNat + 256 - m.toNat) % 256 := by bv_omega

/-- R225 in integers: the difference is 0 exactly when the bytes are equal, and N is its bit 7. -/
theorem compared_eq (f : Flags) (r m : Byte) :
    f.compared r m = { f with
      c := decide (r.toNat ≥ m.toNat)
      z := decide (r = m)
      n := decide ((r.toNat + 256 - m.toNat) % 256 ≥ 128) } := by
  have hz : (r - m == 0) = decide (r = m) := decide_eq_decide.mpr sub_eq_zero
  rw [Flags.compared, Flags.setZN, hz, getLsbD_seven_eq_decide, sub_toNat]

/-- A comparison of a register with an operand writes C, Z and N (R225) and advances PC. -/
theorem compares_of_exec_compareWith {r : State → Byte} {i : Instr} {s : State} {src : DataSource}
    (h : exec i s = .next (compareWith (r s) src s)) (hsrc : src.mode ≠ .relative) :
    Compares r i s (1 + src.mode.operandLength) (src.operand s) := by
  rw [Compares, h, compareWith_eq, operand_advancePast hsrc, advancePast_eq, compared_eq]

/-- The eight forms of CMP are the comparison with A, each of its operand's source (R226). -/
theorem formsOf_compareWith_a :
    FormsOf (fun src s => compareWith s.a src s) .cmpImmediate .cmpZeroPage .cmpZeroPageX .cmpAbsolute .cmpAbsoluteX
      .cmpAbsoluteY .cmpIndirectX .cmpIndirectY :=
  fun _ _ _ => ⟨rfl, rfl, rfl, rfl, rfl, rfl, rfl, rfl⟩

end Sys2Proof.Machine

namespace Sys2Proof.Proofs

open Sys2Proof.Machine Sys2Proof.Claims

/-- Settles O40: CMP's eight forms compare A with their operand, the three forms of CPX compare X and those of CPY Y,
none of them from a Relative source. -/
theorem comparesSetCarryZeroNegative : Obligations.ComparesSetCarryZeroNegative := by
  unfold Obligations.ComparesSetCarryZeroNegative
  exact ⟨overEightForms_of_formsOf formsOf_compareWith_a compares_of_exec_compareWith, fun _ b w => ⟨
    compares_of_exec_compareWith (src := .immediate b) rfl nofun,
    compares_of_exec_compareWith (src := .memory (.zeroPage b)) rfl nofun,
    compares_of_exec_compareWith (src := .memory (.absolute w)) rfl nofun,
    compares_of_exec_compareWith (src := .immediate b) rfl nofun,
    compares_of_exec_compareWith (src := .memory (.zeroPage b)) rfl nofun,
    compares_of_exec_compareWith (src := .memory (.absolute w)) rfl nofun⟩⟩

end Sys2Proof.Proofs
end

section
/-!
PROOFS. Conditional branches (46_branch.md R240 to R248). The target, two wrapping additions in the machine, is read as
one sum of integers; the eight branches differ in the condition they hand to the one shared operation.
-/

namespace Sys2Proof.Machine

open Sys2Proof.Claims

/-- The Relative-mode target counts from PC_next with the displacement signed, modulo 65536 (R95). -/
theorem add_two_add_sext16 (w : Word) (disp8 : Byte) :
    w + 2 + sext16 disp8 = BitVec.ofInt 16 (w.toNat + 2 + disp8.toInt) := by
  rw [add_right_comm, add_sext16, add_right_comm (w.toNat : Int)]
  exact (BitVec.ofInt_add _ 2).symm

/-- An instruction that is the shared branch on a condition of the flags writes PC as R240 says. -/
theorem branches_of_exec_branch {i : Byte → Instr} {cond : Flags → Bool}
    (h : ∀ s disp8, exec (i disp8) s = .next (branch (cond s.flags) disp8 s)) : Branches i cond := by
  intro s disp8
  rw [h, branch_eq, add_two_add_sext16, past_eq]
  rfl

end Sys2Proof.Machine

namespace Sys2Proof.Proofs

open Sys2Proof.Machine Sys2Proof.Claims

/-- Settles O41: each instruction's arm of `exec` is the shared branch on its own flag and value (R241 to R248). -/
theorem branchesTestTheirFlag : Obligations.BranchesTestTheirFlag := by
  unfold Obligations.BranchesTestTheirFlag
  refine ⟨?_, ?_, ?_, ?_, ?_, ?_, ?_, ?_⟩ <;> exact branches_of_exec_branch fun _ _ => rfl

end Sys2Proof.Proofs
end

section
/-!
PROOFS. Jump, call and return (47_jump_call.md R260 to R267) and the trap of BRK (60_exceptions.md R323, R329). The
stack is read in integers first: where a push writes, which two bytes a pushed word is, which flags a pulled byte
gives. The two returns then follow from what the call pushes and what the return pulls.
-/

namespace Sys2Proof.Machine

open Sys2Proof.Claims

/-! ### Stack locations -/

theorem stackAddress_eq_stackAt (sp : Byte) : stackAddress sp = stackAt sp := by
  have := sp.isLt
  apply BitVec.eq_of_toNat_eq
  rw [stackAddress_toNat, stackAt, BitVec.toNat_ofNat]
  omega

theorem stackAt_ne {p q : Byte} (h : p ≠ q) : stackAt p ≠ stackAt q := by
  rw [← stackAddress_eq_stackAt, ← stackAddress_eq_stackAt]
  exact mt stackAddress_inj.mp h

theorem add_one_add_one (sp : Byte) : sp + 1 + 1 = sp + 2 := add_assoc sp 1 1

theorem add_two_add_one (sp : Byte) : sp + 2 + 1 = sp + 3 := add_assoc sp 2 1

theorem sub_one_sub_one (sp : Byte) : sp - 1 - 1 = sp - 2 := sub_sub sp 1 1

theorem sub_two_sub_one (sp : Byte) : sp - 2 - 1 = sp - 3 := sub_sub sp 2 1

/-! ### Words as the two bytes that are pushed -/

theorem loByte_eq_ofNat (w : Word) : loByte w = BitVec.ofNat 8 (w.toNat % 256) := by
  apply BitVec.eq_of_toNat_eq
  rw [loByte_toNat, BitVec.toNat_ofNat, Nat.mod_mod]

theorem hiByte_eq_ofNat (w : Word) : hiByte w = BitVec.ofNat 8 (w.toNat / 256) := by
  have := w.isLt
  apply BitVec.eq_of_toNat_eq
  rw [hiByte_toNat, BitVec.toNat_ofNat]
  omega

/-- The two bytes of a word, pulled again, are the word. -/
theorem join_halves (w : Word) : join (BitVec.ofNat 8 (w.toNat / 256)) (BitVec.ofNat 8 (w.toNat % 256)) = w := by
  rw [← hiByte_eq_ofNat, ← loByte_eq_ofNat, ← wordOf_eq_join, Laws.wordOf_hi_lo]

/-- The address after the one that JSR pushes is the next instruction's (R262, R263). -/
theorem past_two_add_one (s : State) : past s 2 + 1 = past s 3 := by
  rw [past_eq, past_eq]
  exact add_assoc s.pc 2 1

/-- JSR pushes the address of its own last byte (R262). -/
theorem add_three_sub_one (s : State) : s.pc + 3 - 1 = past s 2 := by
  rw [past_eq]
  exact add_sub_assoc s.pc 3 1

/-! ### Memory after pushes -/

theorem read_push (s : State) (v : Byte) (addr : Word) :
    (s.push v).mem.read addr = if addr = stackAt s.sp then v else s.mem.read addr := by
  rw [push_mem, read_write, stackAddress_eq_stackAt]

/-- A pushed word lies low byte below high byte (R260). -/
theorem read_pushWord (s : State) (w : Word) (addr : Word) :
    (s.pushWord w).mem.read addr =
      if addr = stackAt (s.sp - 1) then BitVec.ofNat 8 (w.toNat % 256)
      else if addr = stackAt s.sp then BitVec.ofNat 8 (w.toNat / 256)
      else s.mem.read addr := by
  rw [State.pushWord, read_push, read_push, push_sp, loByte_eq_ofNat, hiByte_eq_ofNat]

/-! ### The status byte on the stack -/

/-- The byte view's value with B read as 1 is the pushed byte (R283). -/
theorem pushedByte_eq_ofNat (f : Flags) : f.pushedByte = BitVec.ofNat 8 (pushedValue f) := by
  rw [pushedByte_eq, pushedValue, ← byteView_toNat, BitVec.ofNat_toNat, BitVec.setWidth_eq]

/-- The flags a pulled byte gives, bit by bit of its value (R284, R265). -/
theorem pulled_eq_loadedFlags (f : Flags) (loadsB : Bool) (p : Byte) :
    f.pulled loadsB p = loadedFlags f loadsB p.toNat := by
  rw [Flags.pulled, getLsbD_zero_eq_decide]
  simp only [getLsbD_eq_decide_div]
  rfl

/-- The status that BRK pushes, loaded again: every flag as it was, B aside. -/
theorem loadedFlags_pushedValue (f g : Flags) (loadsB : Bool) :
    loadedFlags g loadsB (BitVec.ofNat 8 (pushedValue f)).toNat = { f with b := if loadsB then true else g.b } := by
  rw [← pushedByte_eq_ofNat, ← pulled_eq_loadedFlags, pulled_pushedByte]

/-! ### The trap entry -/

theorem breakMemory_eq (s : State) : breakMemory s = ((s.pushWord (s.pc + 2)).push s.flags.pushedByte).mem := rfl

/-- What BRK pushes, top down: the status, the low byte of pc0 + 2 and its high byte (R264). -/
theorem read_breakMemory (s : State) (addr : Word) :
    (breakMemory s).read addr =
      if addr = stackAt (s.sp - 2) then BitVec.ofNat 8 (pushedValue s.flags)
      else if addr = stackAt (s.sp - 1) then BitVec.ofNat 8 ((past s 2).toNat % 256)
      else if addr = stackAt s.sp then BitVec.ofNat 8 ((past s 2).toNat / 256)
      else s.mem.read addr := by
  have hpc : s.pc + 2 = past s 2 := (past_eq s 2).symm
  have hsp : (s.pushWord (s.pc + 2)).sp = s.sp - 2 := sub_one_sub_one s.sp
  rw [breakMemory_eq, read_push, read_pushWord, hsp, hpc, pushedByte_eq_ofNat]

end Sys2Proof.Machine

namespace Sys2Proof.Proofs

open Sys2Proof.Machine Sys2Proof.Claims

/-- Settles O42: the target is the mode's address, and the Indirect one is read within its page. -/
theorem jmpSetsPc : Obligations.JmpSetsPc := by
  unfold Obligations.JmpSetsPc
  intro s w
  rw [← readWordPageWrap_eq_join]
  exact ⟨rfl, rfl⟩

/-- Settles O43: JSR pushes one word, the address before PC_next, and jumps. -/
theorem jsrPushesTheReturnAddress : Obligations.JsrPushesTheReturnAddress := by
  unfold Obligations.JsrPushesTheReturnAddress
  intro s w
  refine ⟨callSubroutine w s, rfl, ?state, fun addr => ?memory⟩
  case state =>
    rw [callSubroutine_eq, sub_one_sub_one]
  case memory =>
    rw [callSubroutine_mem, add_three_sub_one, read_pushWord]

/-- Settles O44: two pulls move SP up by two, and what they answer is joined and counted up. -/
theorem rtsPullsTheReturnAddress : Obligations.RtsPullsTheReturnAddress := by
  unfold Obligations.RtsPullsTheReturnAddress
  intro s
  rw [← add_one_add_one, ← wordOf_eq_join, ← stackAddress_eq_stackAt, ← stackAddress_eq_stackAt]
  rfl

/-- Settles O45, from O43 and O44: SP is where JSR left it, so RTS pulls the two bytes that JSR pushed. -/
theorem jsrThenRtsReturnsAfterTheCall : Obligations.JsrThenRtsReturnsAfterTheCall := by
  unfold Obligations.JsrThenRtsReturnsAfterTheCall
  intro s w
  obtain ⟨t, hexec, ht, hread⟩ := jsrPushesTheReturnAddress s w
  refine ⟨t, hexec, fun u hsp hhi hlo => ?_⟩
  have husp : u.sp = s.sp - 2 := by rw [hsp, ht]
  have hlow : u.sp + 1 = s.sp - 1 := by bv_omega
  have hhigh : u.sp + 2 = s.sp := by bv_omega
  have hne : stackAt s.sp ≠ stackAt (s.sp - 1) := stackAt_ne (by bv_omega)
  rw [hread, if_neg hne, if_pos rfl] at hhi
  rw [hread, if_pos rfl] at hlo
  rw [rtsPullsTheReturnAddress u, hlow, hhigh, hhi, hlo, join_halves, past_two_add_one]

/-- Settles O46: three pushes, then the vector is read. -/
theorem brkTakesTheTrap : Obligations.BrkTakesTheTrap := by
  unfold Obligations.BrkTakesTheTrap
  intro s
  refine ⟨takeBreak s, rfl, ?state, fun addr => ?memory⟩
  case state =>
    rw [takeBreak_eq, Memory.readWord, wordOf_eq_join, sub_one_sub_one s.sp, sub_two_sub_one]
  case memory =>
    rw [takeBreak_mem, read_breakMemory]

/-- Settles O47: one pull loads the flags, two more give PC. -/
theorem rtiRestoresStatusAndPc : Obligations.RtiRestoresStatusAndPc := by
  unfold Obligations.RtiRestoresStatusAndPc
  intro s
  rw [← pulled_eq_loadedFlags, ← wordOf_eq_join, ← add_two_add_one, ← add_one_add_one, ← stackAddress_eq_stackAt,
    ← stackAddress_eq_stackAt, ← stackAddress_eq_stackAt]
  rfl

/-- Settles O48, from O46 and O47: SP is where BRK left it, so RTI pulls the three bytes that BRK pushed. -/
theorem rtiReturnsFromBrk : Obligations.RtiReturnsFromBrk := by
  unfold Obligations.RtiReturnsFromBrk
  intro s
  obtain ⟨t, hexec, ht, hread⟩ := brkTakesTheTrap s
  refine ⟨t, hexec, fun u hsp hkept => ?_⟩
  have husp : u.sp = s.sp - 3 := by rw [hsp, ht]
  have hstatus : u.sp + 1 = s.sp - 2 := by bv_omega
  have hlow : u.sp + 2 = s.sp - 1 := by bv_omega
  have hhigh : u.sp + 3 = s.sp := by bv_omega
  have hhighNeLow : stackAt s.sp ≠ stackAt (s.sp - 1) := stackAt_ne (by bv_omega)
  have hhighNeStatus : stackAt s.sp ≠ stackAt (s.sp - 2) := stackAt_ne (by bv_omega)
  have hlowNeStatus : stackAt (s.sp - 1) ≠ stackAt (s.sp - 2) := stackAt_ne (by bv_omega)
  have hkeptStatus := hkept 2 (by decide)
  have hkeptLow := hkept 1 (by decide)
  have hkeptHigh := hkept 0 (by decide)
  rw [hread, if_pos rfl] at hkeptStatus
  rw [hread, if_neg hlowNeStatus, if_pos rfl] at hkeptLow
  rw [sub_zero, hread, if_neg hhighNeStatus, if_neg hhighNeLow, if_pos rfl] at hkeptHigh
  rw [rtiRestoresStatusAndPc u, hstatus, hlow, hhigh, hkeptStatus, hkeptLow, hkeptHigh, loadedFlags_pushedValue,
    join_halves]

end Sys2Proof.Proofs
end

section
/-!
PROOFS. Stack (48_stack.md R281 to R284). PHA and PHP are one push after PC has advanced, of A or of the status byte;
PLA and PLP take the byte above SP.
-/

namespace Sys2Proof.Machine

open Sys2Proof.Claims

/-- An instruction that pushes one byte writes it at the stack location, moves SP down and advances PC (R57). -/
theorem pushes_of_exec {i : Instr} {s : State} {v : Byte} (h : exec i s = .next ((s.advance 1).push v)) :
    ∃ t, exec i s = .next t ∧ t = { s with pc := past s 1, sp := s.sp - 1, mem := t.mem } ∧
      ∀ addr, t.mem.read addr = if addr = stackAt s.sp then v else s.mem.read addr := by
  refine ⟨_, h, ?_, read_push (s.advance 1) v⟩
  rw [advance_eq_past]
  rfl

end Sys2Proof.Machine

namespace Sys2Proof.Proofs

open Sys2Proof.Machine Sys2Proof.Claims

/-- Settles O49: PHA pushes A; PLA loads A with the byte above SP. -/
theorem phaAndPlaMoveTheAccumulator : Obligations.PhaAndPlaMoveTheAccumulator := by
  unfold Obligations.PhaAndPlaMoveTheAccumulator
  intro s
  refine ⟨pushes_of_exec rfl, ?_⟩
  rw [← stackAddress_eq_stackAt, ← setZN_eq_zn, past_eq]
  rfl

/-- Settles O50: PHP pushes the status byte; PLP loads the flags from the byte above SP. -/
theorem phpAndPlpMoveTheStatus : Obligations.PhpAndPlpMoveTheStatus := by
  unfold Obligations.PhpAndPlpMoveTheStatus
  intro s
  rw [← pushedByte_eq_ofNat, ← pulled_eq_loadedFlags]
  refine ⟨pushes_of_exec rfl, ?_⟩
  rw [← stackAddress_eq_stackAt, past_eq]
  rfl

end Sys2Proof.Proofs
end

section
/-!
PROOFS. Flag operations, transfers and NOP (49_flags_transfer_nop.md R295 to R310): one-byte instructions that advance
PC and write one flag, or one register.
-/

namespace Sys2Proof.Machine

open Sys2Proof.Claims

theorem setsFlags_of_exec {i : Instr} {f : Flags → Flags}
    (h : ∀ s, exec i s = .next ((s.advance 1).setFlags (f s.flags))) : SetsFlags i f := by
  intro s
  rw [h, advance_eq_past]
  rfl

theorem loadsA_of_exec_loadedIntoA {i : Instr} {s : State} {v : Byte}
    (h : exec i s = .next (loadedIntoA v (s.advance 1))) : LoadsA i s 1 v := by
  rw [LoadsA, h, advance_eq_past, ← setZN_eq_zn]
  rfl

end Sys2Proof.Machine

namespace Sys2Proof.Proofs

open Sys2Proof.Machine Sys2Proof.Claims

/-- Settles O51: each instruction's arm of `exec` advances PC and sets its own flag (R296 to R302). -/
theorem flagInstructionsWriteOneFlag : Obligations.FlagInstructionsWriteOneFlag := by
  unfold Obligations.FlagInstructionsWriteOneFlag
  refine ⟨?_, ?_, ?_, ?_, ?_, ?_, ?_⟩ <;> exact setsFlags_of_exec fun _ => rfl

/-- Settles O52: five transfers load their destination from a register; TXS writes SP alone. -/
theorem transfersCopyRegisters : Obligations.TransfersCopyRegisters := by
  unfold Obligations.TransfersCopyRegisters
  intro s
  refine ⟨loadsX_of_exec_loadedIntoX rfl, loadsA_of_exec_loadedIntoA rfl, loadsY_of_exec_loadedIntoY rfl,
    loadsA_of_exec_loadedIntoA rfl, loadsX_of_exec_loadedIntoX rfl, ?txs⟩
  case txs =>
    rw [past_eq]
    rfl

/-- Settles O53: NOP's arm of `exec` is the advance of PC. -/
theorem nopOnlyAdvancesPc : Obligations.NopOnlyAdvancesPc := by
  unfold Obligations.NopOnlyAdvancesPc
  exact fun s => congrArg Host.Outcome.next (advance_eq_past s 1)

end Sys2Proof.Proofs
end

section
/-!
PROOFS. Exceptions (60_exceptions.md): a step answers a next state or DecodeError (R325, R327), and construction
rejects exactly the images with a segment past 0xFFFF (R322).
-/

namespace Sys2Proof.Machine

open Sys2Proof.Claims

theorem segment_fits_iff (seg : Segment) : seg.fits = true ↔ seg.offset.toNat + seg.bytes.length ≤ 65536 :=
  decide_eq_true_iff

/-- The first segment past 0xFFFF, if any, is the one construction reports (R322, R324). -/
theorem construct_of_find_some {p : Params} {seg : Segment} (h : p.image.find? (fun seg => !seg.fits) = some seg) :
    construct p = .failed (.addressResolution seg) := by
  rw [construct, h]

theorem exists_construct_built_of_find_none {p : Params} (h : p.image.find? (fun seg => !seg.fits) = none) :
    ∃ s, construct p = .built s := by
  rw [construct, h]
  exact ⟨_, rfl⟩

theorem find_malformed_eq_none_iff (image : List Segment) :
    image.find? (fun seg => !seg.fits) = none ↔
      ∀ seg ∈ image, seg.offset.toNat + seg.bytes.length ≤ 65536 := by
  simp only [List.find?_eq_none, Bool.not_eq_true', Bool.not_eq_false, segment_fits_iff]

end Sys2Proof.Machine

namespace Sys2Proof.Proofs

open Sys2Proof.Machine Sys2Proof.Claims

/-- Settles O6: by O5 a step faults only where the byte at PC has no descriptor, and every meaning answers a state. -/
theorem everyStepIsNextOrDecodeError : Obligations.EveryStepIsNextOrDecodeError := by
  unfold Obligations.EveryStepIsNextOrDecodeError
  refine ⟨fun s => ?step, fun i s => ?exec⟩
  case step =>
    obtain ⟨hfault, hnext⟩ := decodeErrorExactlyOnUndefinedBytes s
    by_cases hundefined : Undefined s.cfg (s.mem.read s.pc)
    · exact .inr (hfault hundefined)
    · exact .inl (hnext hundefined)
  case exec =>
    obtain ⟨t, hexec, -⟩ := exec_effect i s
    exact ⟨t, hexec⟩

/-- Settles O21: the search for a segment past 0xFFFF finds one exactly when the image has one. -/
theorem constructionRejectsExactlyMalformedImages : Obligations.ConstructionRejectsExactlyMalformedImages := by
  unfold Obligations.ConstructionRejectsExactlyMalformedImages
  refine fun p => ⟨fun ⟨seg, hmem, hlong⟩ => ?malformed, fun hfits => ?wellFormed⟩
  case malformed =>
    cases hfind : p.image.find? (fun seg => !seg.fits) with
    | none => exact absurd ((find_malformed_eq_none_iff _).mp hfind seg hmem) (Nat.not_le.mpr hlong)
    | some first =>
      have hfirst : ¬first.fits = true := by simpa using List.find?_some hfind
      rw [segment_fits_iff] at hfirst
      exact ⟨first, List.mem_of_find?_eq_some hfind, Nat.lt_of_not_le hfirst, construct_of_find_some hfind⟩
  case wellFormed =>
    exact exists_construct_built_of_find_none ((find_malformed_eq_none_iff _).mpr hfits)

end Sys2Proof.Proofs
end

section
/-!
PROOFS. Reset and the driver (70_reset_and_hazards.md): where PC stands after an instruction that does not set it
(R356), the run loop and how a run ends (R358), and the host's reset (R352).
-/

namespace Sys2Proof.Machine

open Sys2Proof.Claims

/-! ### PC -/

theorem accumulate_pc (bin : AluResult) (dec : Byte × Bool) (m : Byte) (s : State) :
    (accumulate bin dec m s).pc = s.pc := by
  obtain ⟨_, _, _, h⟩ := accumulate_frame bin dec m s
  rw [h]

theorem shiftTarget_pc (bits : Bool → Byte → Byte × Bool) (t : ShiftTarget) (s : State) :
    (shiftTarget bits t s).pc = (s.advancePast t.mode).pc := by
  obtain ⟨_, _, h, -, -⟩ := shiftTarget_frame bits t s
  rw [h]

/-- Outside control flow, an instruction leaves PC where its advance put it (R356). -/
theorem Effect.pc_eq {s t : State} {mn : Mnemonic} {mode : Mode} (h : Effect s mn mode t) (hmn : mn ∉ controlFlow) :
    t.pc = (s.advancePast mode).pc := by
  cases h with
  | bcc | bcs | beq | bne | bmi | bpl | bvc | bvs | jmp | jsr | rts | brk | rti => exact absurd (by decide) hmn
  | adc | sbc => exact accumulate_pc ..
  | asl | lsr | rol | ror => exact shiftTarget_pc ..
  | _ => rfl

/-! ### The run loop -/

section

variable {stop : State → Bool} {fuel n : Nat} {s : State}

theorem runFrom_of_stop (hstop : stop s = true) : runFrom stop (fuel + 1) n s = .stopped n s := by
  rw [runFrom, if_pos hstop]

theorem runFrom_of_fault {e : Fault} (hstop : stop s = false) (hstep : step s = .fault e) :
    runFrom stop (fuel + 1) n s = .failed n e s := by
  rw [runFrom, if_neg (Bool.eq_false_iff.mp hstop), hstep]

theorem runFrom_of_next {t : State} (hstop : stop s = false) (hstep : step s = .next t) :
    runFrom stop (fuel + 1) n s = runFrom stop fuel (n + 1) t := by
  rw [runFrom, if_neg (Bool.eq_false_iff.mp hstop), hstep]

end

/-- A run of `n` steps and one more step are a run of `n + 1` steps. -/
theorem runsTo_succ_of_step {n : Nat} {s t u : State} (hrun : RunsTo n s t) (hstep : step t = .next u) :
    RunsTo (n + 1) s u := by
  induction n generalizing s with
  | zero => exact runsTo_succ.mpr ⟨u, runsTo_zero.mp hrun ▸ hstep, runsTo_zero.mpr rfl⟩
  | succ n ih =>
    obtain ⟨v, hfirst, hrest⟩ := runsTo_succ.mp hrun
    exact runsTo_succ.mpr ⟨v, hfirst, ih hrest⟩

/-- How a run from `s` within a budget may end: each end with the state that its steps lead to (R358). -/
inductive EndsWithin (stop : State → Bool) (budget : Nat) (s : State) : RunEnd → Prop where
  | stopped {n : Nat} {t : State} (hrun : RunsTo n s t) (hlt : n < budget) (hstop : stop t = true) :
    EndsWithin stop budget s (.stopped n t)
  | failed {n : Nat} {t : State} (hrun : RunsTo n s t) (hlt : n < budget) (hstop : stop t = false)
    (hundefined : Undefined t.cfg (t.mem.read t.pc)) :
    EndsWithin stop budget s (.failed n (.decodeError t.pc (t.mem.read t.pc)) t)
  | exhausted {t : State} (hrun : RunsTo budget s t) : EndsWithin stop budget s (.exhausted budget t)

/-- The loop's invariant is that the `n` steps done lead from `s` to the present state, and that with the fuel left
they make up the budget. -/
theorem endsWithin_runFrom {stop : State → Bool} {budget fuel n : Nat} {s t : State} (hrun : RunsTo n s t)
    (hbudget : n + fuel = budget) : EndsWithin stop budget s (runFrom stop fuel n t) := by
  induction fuel generalizing n t with
  | zero => exact hbudget ▸ .exhausted hrun
  | succ fuel ih =>
    have hlt : n < budget := by omega
    cases hstop : stop t with
    | true => exact runFrom_of_stop hstop ▸ .stopped hrun hlt hstop
    | false =>
      cases hrow : dispatchTable t.cfg (t.mem.read t.pc) with
      | none =>
        rw [runFrom_of_fault hstop (step_of_no_row hrow)]
        exact .failed hrun hlt hstop ((dispatchTable_eq_none_iff _ _).mp hrow)
      | some row =>
        obtain ⟨u, hexec, -⟩ := exec_effect (row.instr (t.mem.read (past t 1)) (t.mem.read (past t 2))) t
        have hstep : step t = .next u := (step_of_row hrow).trans hexec
        rw [runFrom_of_next hstop hstep]
        exact ih (runsTo_succ_of_step hrun hstep) (by omega)

theorem endsWithin_run (stop : State → Bool) (budget : Nat) (s : State) :
    EndsWithin stop budget s (run budget stop s) :=
  endsWithin_runFrom (runsTo_zero.mpr rfl) (Nat.zero_add budget)

end Sys2Proof.Machine

namespace Sys2Proof.Proofs

open Sys2Proof.Machine Sys2Proof.Claims

/-- Settles O7, one case per mnemonic: PC's advance is past the mode's operand bytes, and nothing writes PC after it. -/
theorem pcAdvancesByTheLength : Obligations.PcAdvancesByTheLength := by
  unfold Obligations.PcAdvancesByTheLength
  intro i s t h hi
  rw [(effect_of_exec h).pc_eq hi, advancePast_eq, past, Nat.add_assoc]

/-- Settles O8, equation by equation of the loop. -/
theorem runFollowsTheDriverLoop : Obligations.RunFollowsTheDriverLoop := by
  unfold Obligations.RunFollowsTheDriverLoop
  exact fun _ _ _ _ _ _ => ⟨rfl, runFrom_of_stop, runFrom_of_fault, runFrom_of_next⟩

/-- Settles O9, from the loop's invariant: one clause for each way to end. -/
theorem runEndsInOneOfThreeWays : Obligations.RunEndsInOneOfThreeWays := by
  unfold Obligations.RunEndsInOneOfThreeWays
  intro stop budget s
  have hends := endsWithin_run stop budget s
  generalize run budget stop s = e at hends ⊢
  cases hends with
  | stopped hrun hlt hstop => exact .inl ⟨_, _, rfl, hrun, hlt, hstop⟩
  | failed hrun hlt hstop hundefined => exact .inr (.inl ⟨_, _, rfl, hrun, hlt, hstop, hundefined⟩)
  | exhausted hrun => exact .inr (.inr ⟨_, rfl, hrun⟩)

/-- Settles O23: a reset replaces the processor state, of which memory and the parameters are no part. -/
theorem resetKeepsMemory : Obligations.ResetKeepsMemory := by
  unfold Obligations.ResetKeepsMemory
  exact fun _ _ => ⟨fun _ => rfl, rfl, rfl⟩

end Sys2Proof.Proofs
end
